-- ==== Sys2Proof/Word.lean ====
section
/-! DEFINITION. The value types of the block: event words, bytes, ticks, channels and axes. -/

namespace Sys2Proof

/-- One byte of a stored trace (30_encoding R75). The block itself never splits a value into bytes (20_memory R55). -/
abbrev Byte := BitVec 8

/-- The 16-bit event word `ev[15:0]` (30_encoding R65). -/
abbrev EventWord := BitVec 16

/-- A duty-cycle value or the content of a compare register: `TW = 16` bits, unsigned (10_state R23, R24). -/
abbrev Tick := BitVec 16

/-- The sequencer index register: `CHW = 2` bits, unsigned (10_state R25). -/
abbrev ChIndex := BitVec 2

/-- A channel number `0..N-1`, `N = 2` (00_scope R10, R19). -/
abbrev Channel := Fin 2

/-- An axis number `0..2`, `NAXES = 3`; axis 2 is the claw (00_scope R10, R19). -/
abbrev Axis := Fin 3

/-- The claw state, `CLOSED` or `OPEN` (10_state R27). -/
inductive Claw where
  | closed
  | opened
  deriving DecidableEq, Repr

end Sys2Proof
end

