-- ==== Sys2Proof/Config.lean ====
section
/-! DEFINITION. The configuration record `cfg` of compile-time constants (00_scope R9, R10), the fixed parameters, and
the reference configuration REF. The spec leaves no instruction's result open, so there is no free value here. -/

namespace Sys2Proof

/-- `N`, the number of smoothed channels: 2, fixed (00_scope R10). -/
def numChannels : Nat := 2

/-- `NAXES`, the number of servo axes: 3, fixed (00_scope R10). -/
def numAxes : Nat := 3

/-- `CLAW_AXIS`: 2 (00_scope R10). -/
def clawAxis : Axis := 2

/-- `TW`, the width of a duty-cycle value and of a compare register: 16 (00_scope R10). -/
def tickWidth : Nat := 16

/-- `CHW`, the width of the channel-index register: 2 (00_scope R10). -/
def chIndexWidth : Nat := 2

/-- The bounds `TICK_MIN[a]`, `TICK_MAX[a]` of one axis (00_scope R10). -/
structure TickBounds where
  min : Nat
  max : Nat
  deriving DecidableEq, Repr

/-- The parameters the spec leaves OPEN (00_scope R10), each a natural number as written there; the two rationals
`RATE_MAX` and `POS_INIT` are a numerator over a denominator. The defaults are the spec's. -/
structure Config where
  /-- `SW`, the width of a raw sample. -/
  sw : Nat
  /-- `T_LOW`, the lower dead-zone threshold. -/
  tLow : Nat
  /-- `T_HIGH`, the upper dead-zone threshold. -/
  tHigh : Nat
  /-- `RATE_NUM` of `RATE_MAX = RATE_NUM / RATE_DEN`. -/
  rateNum : Nat
  /-- `RATE_DEN` of `RATE_MAX = RATE_NUM / RATE_DEN`. -/
  rateDen : Nat := 1
  /-- `POSITION_MAX`, the upper bound of a position. -/
  positionMax : Nat
  /-- Numerator of `POS_INIT`. -/
  posInitNum : Nat := positionMax
  /-- Denominator of `POS_INIT`. -/
  posInitDen : Nat := 2
  /-- Tick bounds of axis 0. -/
  axis0 : TickBounds
  /-- Tick bounds of axis 1. -/
  axis1 : TickBounds
  /-- Tick bounds of axis 2, the claw. -/
  axis2 : TickBounds
  /-- `CLAW_OPEN_TICK`. -/
  clawOpenTick : Nat
  /-- `CLAW_CLOSED_TICK`. -/
  clawClosedTick : Nat
  /-- `CLAW_INIT`, default `CLOSED`. -/
  clawInit : Claw := .closed
  /-- `SETTLE_MS`, the debounce settle interval in milliseconds, default 150. -/
  settleMs : Nat := 150
  deriving DecidableEq, Repr

/-- The reference configuration REF (00_scope R10, 92 D29), used by the spec's test vectors. DESIGN CHOICE, unsafe:
`State.reset` carries it, because the host's reset is one state (log entry 2). -/
def Config.ref : Config where
  sw := 10
  tLow := 448
  tHigh := 575
  rateNum := 10
  positionMax := 1000
  axis0 := ⟨1000, 2000⟩
  axis1 := ⟨600, 2400⟩
  axis2 := ⟨1000, 2000⟩
  clawOpenTick := 1900
  clawClosedTick := 1100

/-- The tick bounds of an axis. -/
def Config.bounds (c : Config) : Axis → TickBounds
  | 0 => c.axis0
  | 1 => c.axis1
  | 2 => c.axis2

end Sys2Proof
end

