-- ==== Sys2Proof/Machine/Operands.lean ====
section
/-! DEFINITION. What the operations compute from the configuration: the derived constants of the register form
(41 R110, R111), the clamp, the rate, INTEGRATE on one position, MAP and CLAWTICK, each in the register form the machine
uses and, for the rate, the integration and the mapper, in the rational form of the spec's defining formulas. -/

namespace Sys2Proof.Machine

/-- `clamp(v, lo, hi)` (00_scope R16). -/
def clamp {α : Type} [LT α] [DecidableLT α] (v lo hi : α) : α :=
  if v < lo then lo else if hi < v then hi else v

/-- The least `w` with `2^w > n`, the width of an unsigned register that holds `0..n` (00_scope R10 `SCW`, 41 R111). -/
def leastWidth (n : Nat) : Nat :=
  if n = 0 then 0 else Nat.log2 n + 1

end Sys2Proof.Machine

namespace Sys2Proof

/-- `SAMPLE_MAX = 2^SW - 1` (00_scope R10). -/
def Config.sampleMax (c : Config) : Nat := 2 ^ c.sw - 1

/-- `UP_SPAN = SAMPLE_MAX - T_HIGH` (41 R110). -/
def Config.upSpan (c : Config) : Nat := c.sampleMax - c.tHigh

/-- `DN_SPAN = T_LOW` (41 R110). -/
def Config.dnSpan (c : Config) : Nat := c.tLow

/-- `L = lcm(UP_SPAN, DN_SPAN)` (41 R110). -/
def Config.spanLcm (c : Config) : Nat := Nat.lcm c.upSpan c.dnSpan

/-- `Q = RATE_DEN * L`, the scale of the position register (41 R110). -/
def Config.scale (c : Config) : Nat := c.rateDen * c.spanLcm

/-- `KU = RATE_NUM * (L / UP_SPAN)` (41 R110). -/
def Config.ku (c : Config) : Nat := c.rateNum * (c.spanLcm / c.upSpan)

/-- `KD = RATE_NUM * (L / DN_SPAN)` (41 R110). -/
def Config.kd (c : Config) : Nat := c.rateNum * (c.spanLcm / c.dnSpan)

/-- `PMAXQ = POSITION_MAX * Q` (41 R110). -/
def Config.pmaxq (c : Config) : Nat := c.positionMax * c.scale

/-- `PW`, the width of the position register (41 R111). -/
def Config.posWidth (c : Config) : Nat := Machine.leastWidth c.pmaxq

/-- `SCW`, the width of the settle counter (00_scope R10). -/
def Config.settleWidth (c : Config) : Nat := Machine.leastWidth c.settleMs

/-- `POS_INIT * Q`, the reset value of a position register; exact by 00_scope R11 line 6. -/
def Config.posInitQ (c : Config) : Nat := c.posInitNum * c.scale / c.posInitDen

/-- `RATE_MAX`, as a rational (00_scope R10). -/
def Config.rateMax (c : Config) : ℚ := c.rateNum / c.rateDen

/-- `POS_INIT`, as a rational (00_scope R10). -/
def Config.posInit (c : Config) : ℚ := c.posInitNum / c.posInitDen

end Sys2Proof

namespace Sys2Proof.Machine

/-- The axis a channel drives: axis `i` for channel `i` (40 R91). -/
def axisOf : Channel → Axis
  | 0 => 0
  | 1 => 1

/-! ### The register form, which the machine runs -/

/-- `delta(s) * Q`, the step of the position register: the three cases of 41 R101 on the register form of 41 R110. -/
def deltaQ (c : Config) (s : Nat) : Int :=
  if c.tHigh < s then (c.ku * (s - c.tHigh) : Nat)
  else if s < c.tLow then -((c.kd * (c.tLow - s) : Nat) : Int)
  else 0

/-- INTEGRATE on one position register (41 R110): the exact sum, clamped to `[0, PMAXQ]` in every case (41 R105). -/
def integrateQ (c : Config) (posq s : Nat) : Nat :=
  (clamp ((posq : Int) + deltaQ c s) 0 c.pmaxq).toNat

/-- `SPAN[a]` of the axis channel `i` drives (42 R120). -/
def tickSpan (c : Config) (i : Channel) : Nat :=
  (c.bounds (axisOf i)).max - (c.bounds (axisOf i)).min

/-- MAP in integer form, before it is written as a `TW`-bit value (42 R124). It is defined for the two channels' axes
only: "It is never called for the claw axis" (42 R120). -/
def mapTick (c : Config) (i : Channel) (posq : Nat) : Nat :=
  clamp ((c.bounds (axisOf i)).min + posq * tickSpan c i / c.pmaxq) (c.bounds (axisOf i)).min (c.bounds (axisOf i)).max

/-- MAP as the value of a duty-cycle register (42 R120, R124). -/
def mapDuty (c : Config) (i : Channel) (posq : Nat) : Tick := BitVec.ofNat 16 (mapTick c i posq)

/-- CLAWTICK, as a number (42 R127): the constant of the claw state, with no arithmetic and no clamp. -/
def clawTickNat (c : Config) : Claw → Nat
  | .opened => c.clawOpenTick
  | .closed => c.clawClosedTick

/-- CLAWTICK as the value of a duty-cycle register (42 R127). -/
def clawTick (c : Config) (k : Claw) : Tick := BitVec.ofNat 16 (clawTickNat c k)

/-! ### The rational form, which defines what the register form must compute -/

/-- `delta(s)`, the rate function (41 R101 to R104). -/
def delta (c : Config) (s : Nat) : ℚ :=
  if c.tHigh < s then c.rateMax * ((s : ℚ) - c.tHigh) / ((c.sampleMax : ℚ) - c.tHigh)
  else if s < c.tLow then c.rateMax * ((s : ℚ) - c.tLow) / c.tLow
  else 0

/-- The new position of INTEGRATE, over the rationals (41 R105, R107). -/
def integrateRat (c : Config) (p : ℚ) (s : Nat) : ℚ :=
  clamp (p + delta c s) 0 c.positionMax

/-- `MAP(a, p)` over the rationals, `p` in range or not (42 R120 to R122). -/
def mapRat (c : Config) (i : Channel) (p : ℚ) : Int :=
  clamp (((c.bounds (axisOf i)).min : Int)
      + ⌊p * (((c.bounds (axisOf i)).max : ℚ) - (c.bounds (axisOf i)).min) / c.positionMax⌋)
    (c.bounds (axisOf i)).min (c.bounds (axisOf i)).max

/-- The position a register content stands for: `pos = posq / Q` (41 R110). -/
def position (c : Config) (posq : Nat) : ℚ := posq / c.scale

end Sys2Proof.Machine
end

