-- ==== Sys2Proof/Syntax.lean ====
section
/-! DEFINITION. The seven operations of the block (30_encoding R70), one constructor per row of the opcode table, with
the format of each word and the agent that delivers each event. -/

namespace Sys2Proof

/-- An operation of the block: the atomic response to one input event (00_scope R3, 30_encoding R70). -/
inductive Instr where
  /-- NOP: no event (44 R155). -/
  | nop
  /-- START: begin sequencing (40 R86). -/
  | start
  /-- CONV_DONE `s`: a conversion has completed with raw sample `s` (40 R87), a non-negative integer (30_encoding R67). -/
  | convDone (sample : Nat)
  /-- PWM_OVF: one PWM period has elapsed (42 R125). -/
  | pwmOvf
  /-- POLL `b`: one evaluation of the latch, `asserted` when `b = 1` (43 R139, R146). -/
  | poll (asserted : Bool)
  /-- MS_TICK: one millisecond has elapsed (43 R142). -/
  | msTick
  /-- RESET: system initialisation (44 R156). -/
  | reset
  deriving DecidableEq, Repr

/-- The formats: how `arg` is read (30_encoding R65). -/
inductive Format where
  /-- zero operand: `arg` must be 0 -/
  | z
  /-- sample: `s = arg` -/
  | s
  /-- bit: `b = arg[0]` -/
  | b
  deriving DecidableEq, Repr

/-- The format of each operation (30_encoding R65). -/
def Instr.format : Instr → Format
  | .nop => .z
  | .start => .z
  | .convDone _ => .s
  | .pwmOvf => .z
  | .poll _ => .b
  | .msTick => .z
  | .reset => .z

/-- The agents that deliver events (00_scope R14, 30_encoding R70). -/
inductive Agent where
  | any
  | host
  | conversionComplete
  | timerOverflow
  | mainLoop
  | timeBase
  deriving DecidableEq, Repr

/-- The agent of each operation (30_encoding R70). -/
def Instr.agent : Instr → Agent
  | .nop => .any
  | .start => .host
  | .convDone _ => .conversionComplete
  | .pwmOvf => .timerOverflow
  | .poll _ => .mainLoop
  | .msTick => .timeBase
  | .reset => .host

/-- The two asynchronous event sources (60_exceptions R171); every other event is a synchronous input. -/
def Instr.asynchronous (i : Instr) : Bool :=
  i.agent = .conversionComplete || i.agent = .timerOverflow

end Sys2Proof
end

