-- ==== Sys2Proof/WellFormed.lean ====
section
/-! DEFINITION. Well-formed configurations, the ten lines of 00_scope R11, and well-formed operations. -/

namespace Sys2Proof

/-- Line 1: `N = 2`, `NAXES = 3`, `CLAW_AXIS = 2`. These are fixed by the types, so the line always holds. -/
def Config.line1 : Bool := numChannels = 2 && numAxes = 3 && clawAxis = 2

/-- Line 2: `1 <= SW <= 12` (and `SAMPLE_MAX = 2^SW - 1`, its definition). -/
def Config.line2 (c : Config) : Bool := 1 ≤ c.sw && c.sw ≤ 12

/-- Line 3: `0 < T_LOW <= T_HIGH < SAMPLE_MAX`. -/
def Config.line3 (c : Config) : Bool := 0 < c.tLow && c.tLow ≤ c.tHigh && c.tHigh < c.sampleMax

/-- Line 4: `RATE_NUM >= 1`, `RATE_DEN >= 1`. -/
def Config.line4 (c : Config) : Bool := 1 ≤ c.rateNum && 1 ≤ c.rateDen

/-- Line 5: `POSITION_MAX >= 1`. -/
def Config.line5 (c : Config) : Bool := 1 ≤ c.positionMax

/-- Line 6: `0 <= POS_INIT <= POSITION_MAX`, and `POS_INIT * Q` is an integer (`POS_INIT` is a fraction of naturals, so its
denominator is positive and it is not negative; log entry 5). -/
def Config.line6 (c : Config) : Bool :=
  0 < c.posInitDen && c.posInitNum ≤ c.positionMax * c.posInitDen && c.posInitNum * c.scale % c.posInitDen = 0

/-- Line 7 for one axis: `0 <= TICK_MIN <= TICK_MAX < 2^TW`. -/
def TickBounds.ok (b : TickBounds) : Bool := b.min ≤ b.max && b.max < 2 ^ tickWidth

/-- Line 7: the tick bounds of the three axes. -/
def Config.line7 (c : Config) : Bool := c.axis0.ok && c.axis1.ok && c.axis2.ok

/-- Line 8: the two claw ticks lie within the claw axis's bounds. -/
def Config.line8 (c : Config) : Bool :=
  c.axis2.min ≤ c.clawOpenTick && c.clawOpenTick ≤ c.axis2.max &&
  c.axis2.min ≤ c.clawClosedTick && c.clawClosedTick ≤ c.axis2.max

/-- Line 9: `SETTLE_MS >= 0`, which holds of every natural number. -/
def Config.line9 (c : Config) : Bool := 0 ≤ c.settleMs

/-- Line 10: `CHW >= 2`; the width is fixed by the type, so the line always holds. -/
def Config.line10 : Bool := 2 ≤ chIndexWidth

/-- A configuration is well formed when all ten lines hold (00_scope R11). -/
def Config.wf (c : Config) : Bool :=
  Config.line1 && c.line2 && c.line3 && c.line4 && c.line5 && c.line6 && c.line7 && c.line8 && c.line9 && Config.line10

/-- An operation is well formed when its operand is one the encoding admits: a sample is at most `SAMPLE_MAX`
(30_encoding R65, R66). -/
def Instr.wf (c : Config) : Instr → Bool
  | .convDone s => s ≤ c.sampleMax
  | .nop => true
  | .start => true
  | .pwmOvf => true
  | .poll _ => true
  | .msTick => true
  | .reset => true

end Sys2Proof
end

