-- ==== Sys2Proof/Decode.lean ====
section
/-! DEFINITION. The decoder of event words and stored traces, total and rejecting by name, and after it the encoder
(30_encoding R65 to R75). -/

namespace Sys2Proof

/-- Why a stored trace is not a trace (30_encoding R69, R75; 60_exceptions R174). -/
inductive DecodeError where
  /-- a byte list of odd length (30_encoding R75) -/
  | oddLength
  /-- `op` in `0x6..0xE` -/
  | reservedOp (w : EventWord)
  /-- format Z with `arg != 0` -/
  | nonzeroArg (w : EventWord)
  /-- CONV_DONE with `arg > SAMPLE_MAX` -/
  | sampleTooLarge (w : EventWord)
  /-- POLL with `arg[11:1] != 0` -/
  | pollArg (w : EventWord)
  deriving DecidableEq, Repr

/-- `op = ev[15:12]` (30_encoding R65). -/
def opField (w : EventWord) : BitVec 4 := w.extractLsb' 12 4

/-- `arg = ev[11:0]` (30_encoding R65). -/
def argField (w : EventWord) : BitVec 12 := w.extractLsb' 0 12

/-- Format Z: the operation, if `arg` is 0 (30_encoding R65). -/
def decodeZ (w : EventWord) (i : Instr) : Except DecodeError Instr :=
  if argField w = 0 then .ok i else .error (.nonzeroArg w)

/-- Format S: the sample is `arg`, zero-extended, and must not exceed `SAMPLE_MAX` (30_encoding R65, R67). -/
def decodeS (c : Config) (w : EventWord) : Except DecodeError Instr :=
  if (argField w).toNat ≤ c.sampleMax then .ok (.convDone (argField w).toNat) else .error (.sampleTooLarge w)

/-- Format B: the level is `arg[0]`, and `arg[11:1]` must be 0 (30_encoding R65, R67). -/
def decodeB (w : EventWord) : Except DecodeError Instr :=
  if (argField w).extractLsb' 1 11 = 0 then .ok (.poll ((argField w).getLsbD 0)) else .error (.pollArg w)

/-- The decoder of one event word (30_encoding R71), for the sample width of `c`. -/
def decode (c : Config) (w : EventWord) : Except DecodeError Instr :=
  match (opField w).toNat with
  | 0x0 => decodeZ w .nop
  | 0x1 => decodeZ w .start
  | 0x2 => decodeS c w
  | 0x3 => decodeZ w .pwmOvf
  | 0x4 => decodeB w
  | 0x5 => decodeZ w .msTick
  | 0xF => decodeZ w .reset
  | _ => .error (.reservedOp w)

/-- The words of a stored trace: two bytes each, the less significant first; none for an odd length (30_encoding R75). -/
def bytesToWords : List Byte → Option (List EventWord)
  | [] => some []
  | [_] => none
  | lo :: hi :: rest => (bytesToWords rest).map fun ws => (hi ++ lo) :: ws

/-- Decodes words in order; one reserved word refuses them all (30_encoding R69). -/
def decodeAll (c : Config) : List EventWord → Except DecodeError (List Instr)
  | [] => .ok []
  | w :: ws =>
    match decode c w, decodeAll c ws with
    | .ok i, .ok is => .ok (i :: is)
    | .error e, _ => .error e
    | _, .error e => .error e

/-- The events of a stored trace, or the reason it is refused whole (30_encoding R69, R75). -/
def decodeTrace (c : Config) (bytes : List Byte) : Except DecodeError (List Instr) :=
  match bytesToWords bytes with
  | none => .error .oddLength
  | some ws => decodeAll c ws

/-- The two bytes of a word as a stored trace holds them (30_encoding R75). -/
def wordBytes (w : EventWord) : List Byte := [w.extractLsb' 0 8, w.extractLsb' 8 8]

/-- The instruction the decoder reads from a word `w` of the opcode table, whose rows are those of REF. -/
def decodeTableWord (nbits w : Nat) : Option Instr :=
  match decodeTrace Config.ref (wordBytes (BitVec.ofNat 16 (w % 2 ^ nbits))) with
  | .ok [i] => some i
  | _ => none

/-! ### The encoder -/

/-- An event word from its two fields (30_encoding R65). -/
def eventWord (op : BitVec 4) (arg : BitVec 12) : EventWord := op ++ arg

/-- The opcode of each operation (30_encoding R68). -/
def Instr.opcode : Instr → BitVec 4
  | .nop => 0x0
  | .start => 0x1
  | .convDone _ => 0x2
  | .pwmOvf => 0x3
  | .poll _ => 0x4
  | .msTick => 0x5
  | .reset => 0xF

/-- The word of a well-formed operation (30_encoding R68, R71). -/
def encode : Instr → EventWord
  | .nop => eventWord 0x0 0
  | .start => eventWord 0x1 0
  | .convDone s => eventWord 0x2 (BitVec.ofNat 12 s)
  | .pwmOvf => eventWord 0x3 0
  | .poll b => eventWord 0x4 (if b then 1 else 0)
  | .msTick => eventWord 0x5 0
  | .reset => eventWord 0xF 0

/-- The stored form of a list of events (30_encoding R75). -/
def encodeTrace : List Instr → List Byte
  | [] => []
  | i :: is => wordBytes (encode i) ++ encodeTrace is

end Sys2Proof
end

