-- ==== Sys2Proof/Machine/State.lean ====
section
/-! DEFINITION. The state of the block (10_state R20 to R30), the reasons a step can stop, and the state after reset. -/

namespace Sys2Proof.Machine

/-- An output action (00_scope R17). -/
inductive Action where
  /-- `SEL(i)`: the block selects analog channel `i` -/
  | sel (i : Channel)
  /-- `TRIG`: the block triggers one conversion -/
  | trig
  /-- `SETDUTY(a, v)`: the block writes tick value `v` to the compare register of axis `a` -/
  | setDuty (a : Axis) (v : Tick)
  deriving DecidableEq, Repr

/-- The latch's state (10_state R28): the three states and the two-bit pattern 3, which is not a state, is reached by no
operation, and on which POLL and MS_TICK are refused (43 R141). -/
inductive BState where
  | idle
  | pressed
  | settle
  | invalid
  deriving DecidableEq, Repr

/-- The two-bit encoding of the latch's state (10_state R28). -/
def BState.code : BState → BitVec 2
  | .idle => 0
  | .pressed => 1
  | .settle => 2
  | .invalid => 3

/-- The block raises no exception, takes no trap and has no fault mechanism (60_exceptions R165), so there is no fault. -/
inductive Fault where
  deriving DecidableEq, Repr

/-- The refusals of the model (60_exceptions R174): the spec gives the event no meaning, and the run stops (00_scope R16).
Each is safe: nothing can be proved about what the hardware would do there. -/
inductive Refusal where
  /-- An operation without a meaning. Raised by no arm of `exec`: every operation has its meaning. Safe. -/
  | notModelled (mnemonic : String)
  /-- The configuration fails a line of 00_scope R11. Raised by `step` before any operation runs. Safe. -/
  | configIllFormed
  /-- The stored trace has odd length or holds a reserved word, and is refused whole (30_encoding R69, R75). Raised by
  `step` before any operation runs. Safe. -/
  | badTrace (e : DecodeError)
  /-- CONV_DONE with `busy = 0`: no conversion is outstanding (40 R93). Raised by CONV_DONE. Safe. -/
  | convDoneIdle
  /-- CONV_DONE with a sample above `SAMPLE_MAX`, which no word spells (60_exceptions R173). Raised by CONV_DONE, and
  never in a `step`, since the decoder refuses such a word. Safe. -/
  | sampleOutOfRange
  /-- POLL or MS_TICK on the pattern `bstate = 3` (43 R141). Raised by POLL and MS_TICK. Safe. -/
  | bstateInvalid
  deriving DecidableEq, Repr

/-- The state tuple of 10_state R20, with the output log (10_state R30), the configuration the step works under
(00_scope R9; log entry 1), and the trace being run with its index (10_state R21; log entry 7). The widths `PW` and `SCW`
follow from the configuration, so the types of the position registers and of the settle counter do too (log entry 4). -/
structure State where
  /-- `cfg`, written by no operation (00_scope R9). -/
  cfg : Config
  /-- `ch`, the sequencer index (10_state R25). -/
  ch : ChIndex
  /-- `busy`, a conversion is outstanding (10_state R26). -/
  busy : Bool
  /-- `posq[0]`, the position register of channel 0, `PW` bits unsigned (10_state R22, 41 R110, R111). -/
  pos0 : BitVec cfg.posWidth
  /-- `posq[1]`, the position register of channel 1, `PW` bits unsigned (10_state R22, 41 R110, R111). -/
  pos1 : BitVec cfg.posWidth
  /-- `duty[0]` (10_state R23). -/
  duty0 : Tick
  /-- `duty[1]` (10_state R23). -/
  duty1 : Tick
  /-- `duty[2]`, the claw axis (10_state R23). -/
  duty2 : Tick
  /-- `cmp[0]`, `none` when unwritten (10_state R24). -/
  cmp0 : Option Tick
  /-- `cmp[1]`, `none` when unwritten (10_state R24). -/
  cmp1 : Option Tick
  /-- `cmp[2]`, `none` when unwritten (10_state R24). -/
  cmp2 : Option Tick
  /-- `claw` (10_state R27). -/
  claw : Claw
  /-- `bstate` (10_state R28). -/
  bstate : BState
  /-- `sc`, the settle counter, `SCW` bits unsigned (10_state R29, 60_exceptions R181). -/
  sc : BitVec cfg.settleWidth
  /-- `out`, the output log, oldest first (10_state R30). -/
  out : List Action
  /-- The stored trace, as bytes (30_encoding R75). The model's own field. -/
  trace : List Byte
  /-- The index into the trace, "the model's, not the hardware's" (10_state R21). -/
  idx : Nat
  deriving DecidableEq, Repr

/-- The outcome of a step of the block. -/
abbrev Result := Host.Outcome State Fault Refusal

/-- The state at power-on under a configuration: the table of 10_state R35, with no trace loaded. -/
def State.powerOn (c : Config) : State where
  cfg := c
  ch := 0
  busy := false
  pos0 := BitVec.ofNat _ c.posInitQ
  pos1 := BitVec.ofNat _ c.posInitQ
  duty0 := mapDuty c 0 c.posInitQ
  duty1 := mapDuty c 1 c.posInitQ
  duty2 := clawTick c c.clawInit
  cmp0 := none
  cmp1 := none
  cmp2 := none
  claw := c.clawInit
  bstate := .idle
  sc := 0
  out := []
  trace := []
  idx := 0

/-- The state after reset (10_state R35, 70 R191). DESIGN CHOICE, unsafe: the OPEN parameters take the values of the
reference configuration, since the host's reset is one state (log entry 2). -/
def State.reset : State := State.powerOn Config.ref

end Sys2Proof.Machine
end

