-- ==== Sys2Proof/Machine/Flags.lean ====
section
/-! DEFINITION. The one-bit state. The block has no condition codes and no flag that arithmetic sets (10_state R31); the
only one-bit registers are `busy` and `claw` (10_state R26, R27). -/

namespace Sys2Proof.Machine

/-- Writes `busy` (10_state R26). -/
def State.setBusy (s : State) (b : Bool) : State := { s with busy := b }

/-- `not claw`: `CLOSED <-> OPEN` (43 R136). -/
def flipClaw : Claw → Claw
  | .closed => .opened
  | .opened => .closed

/-- The one-bit encoding `CLOSED = 0`, `OPEN = 1` (10_state R27). -/
def clawCode : Claw → Bool
  | .closed => false
  | .opened => true

/-- Writes `claw` (10_state R27). -/
def State.setClaw (s : State) (k : Claw) : State := { s with claw := k }

end Sys2Proof.Machine
end

