-- ==== Sys2Proof/Machine/Ops.lean ====
section
/-! DEFINITION. The named operations over the registers, each the only place that register is read or written by index, and
the shared parts of the operations: index repair, trigger, INTEGRATE, commit, toggle. The block has no memory
(20_memory R50) and takes no exception (60_exceptions R165, R177), so there is no operation over either. -/

namespace Sys2Proof.Machine

/-! ### Registers -/

/-- Reads `posq[i]`, as the number it holds (10_state R22). -/
def State.pos (s : State) : Channel → Nat
  | 0 => s.pos0.toNat
  | 1 => s.pos1.toNat

/-- Writes `posq[i]`, all `PW` bits of it (10_state R22). INTEGRATE writes numbers that fit (41 R111). -/
def State.setPos (s : State) (i : Channel) (p : Nat) : State :=
  { s with
    pos0 := if i = 0 then BitVec.ofNat _ p else s.pos0
    pos1 := if i = 1 then BitVec.ofNat _ p else s.pos1 }

/-- Reads `duty[a]` (10_state R23). -/
def State.duty (s : State) : Axis → Tick
  | 0 => s.duty0
  | 1 => s.duty1
  | 2 => s.duty2

/-- Writes `duty[a]` (10_state R23). -/
def State.setDuty (s : State) (a : Axis) (v : Tick) : State :=
  { s with
    duty0 := if a = 0 then v else s.duty0
    duty1 := if a = 1 then v else s.duty1
    duty2 := if a = 2 then v else s.duty2 }

/-- Reads `cmp[a]`, `none` when it is unwritten (10_state R24). -/
def State.cmp (s : State) : Axis → Option Tick
  | 0 => s.cmp0
  | 1 => s.cmp1
  | 2 => s.cmp2

/-- Writes `cmp[a]` (10_state R24). -/
def State.setCmp (s : State) (a : Axis) (v : Option Tick) : State :=
  { s with
    cmp0 := if a = 0 then v else s.cmp0
    cmp1 := if a = 1 then v else s.cmp1
    cmp2 := if a = 2 then v else s.cmp2 }

/-- Writes `ch` with a channel number (10_state R25). -/
def State.setCh (s : State) (i : Channel) : State := { s with ch := BitVec.ofNat 2 i.val }

/-- Writes `bstate` (10_state R28). -/
def State.setBState (s : State) (b : BState) : State := { s with bstate := b }

/-- Reads `sc`, as the number it holds (10_state R29). -/
def State.settleCount (s : State) : Nat := s.sc.toNat

/-- Writes `sc`, all `SCW` bits of it (10_state R29). The latch writes 0, `SETTLE_MS` and `sc - 1`, which fit. -/
def State.setSc (s : State) (n : Nat) : State := { s with sc := BitVec.ofNat _ n }

/-- `emit A`: appends an action to the output log (00_scope R16). -/
def State.emit (s : State) (a : Action) : State := { s with out := s.out ++ [a] }

/-! ### The sequencer's parts -/

/-- The channel the sequencer serves: `ch`, or 0 when `ch >= N` (40 R90). -/
def repairedChannel (ch : ChIndex) : Channel :=
  if h : ch.toNat < 2 then ⟨ch.toNat, h⟩ else 0

/-- `if ch >= N then ch <- 0` (40 R90, SC1 of 60_exceptions R166). -/
def State.repairIndex (s : State) : State := s.setCh (repairedChannel s.ch)

/-- `(i + 1) mod N` (40 R87 step 4). -/
def nextChannel (i : Channel) : Channel := i + 1

/-- `emit SEL(i); emit TRIG; busy <- 1` (40 R86 steps 2 to 4, R87 steps 5 to 7). -/
def State.trigger (s : State) (i : Channel) : State := ((s.emit (.sel i)).emit .trig).setBusy true

/-- `INTEGRATE(i, s)`: writes `pos[i]`, then `duty[i]` from the new position (41 R107). -/
def State.integrate (s : State) (i : Channel) (sample : Nat) : State :=
  let p := integrateQ s.cfg (s.pos i) sample
  (s.setPos i p).setDuty (axisOf i) (mapDuty s.cfg i p)

/-! ### The commit's part -/

/-- `cmp[a] <- duty[a]; emit SETDUTY(a, duty[a])` (42 R125). -/
def State.commit (s : State) (a : Axis) : State :=
  (s.setCmp a (some (s.duty a))).emit (.setDuty a (s.duty a))

/-! ### The latch's parts -/

/-- The toggle: `claw <- not claw; duty[2] <- CLAWTICK(claw); bstate <- PRESSED`, with the new `claw` (43 R136). -/
def State.toggle (s : State) : State :=
  ((s.setClaw (flipClaw s.claw)).setDuty clawAxis (clawTick s.cfg (flipClaw s.claw))).setBState .pressed

/-- The release: the settle interval starts, or, with `SETTLE_MS = 0`, the latch is `IDLE` at once (43 R137). -/
def State.release (s : State) : State :=
  if s.cfg.settleMs = 0 then (s.setSc 0).setBState .idle else (s.setSc s.cfg.settleMs).setBState .settle

/-- One millisecond of the settle interval; `sc = 0` leaves it like `sc = 1` (43 R142). -/
def State.settleTick (s : State) : State :=
  if s.settleCount ≤ 1 then (s.setSc 0).setBState .idle else s.setSc (s.settleCount - 1)

/-! ### Reset -/

/-- Every register to its value of 10_state R35; the output log, the configuration and the trace stay (44 R156). -/
def State.resetRegisters (s : State) : State :=
  { s with
    ch := 0
    busy := false
    pos0 := BitVec.ofNat _ s.cfg.posInitQ
    pos1 := BitVec.ofNat _ s.cfg.posInitQ
    duty0 := mapDuty s.cfg 0 s.cfg.posInitQ
    duty1 := mapDuty s.cfg 1 s.cfg.posInitQ
    duty2 := clawTick s.cfg s.cfg.clawInit
    cmp0 := none
    cmp1 := none
    cmp2 := none
    claw := s.cfg.clawInit
    bstate := .idle
    sc := 0 }

/-! ### The source of events -/

/-- The event the trace holds at the index, once the configuration is well formed (00_scope R11) and the whole trace
decodes (30_encoding R69); `none` when the trace is exhausted. -/
def fetch (s : State) : Except Refusal (Option Instr) :=
  if s.cfg.wf then
    match decodeTrace s.cfg s.trace with
    | .ok is => .ok is[s.idx]?
    | .error e => .error (.badTrace e)
  else .error .configIllFormed

/-- The index moves on by exactly one per event (10_state R21). -/
def State.advance (s : State) : State := { s with idx := s.idx + 1 }

/-- Loads a stored trace from outside the machine, to be run from its first event (log entry 9). -/
def State.load (s : State) (bytes : List Byte) : State := { s with trace := bytes, idx := 0 }

end Sys2Proof.Machine
end

