-- ==== Sys2Proof/Machine/Commit.lean ====
section
/-! DEFINITION. The periodic output commit: the operation PWM_OVF (42_pwm_mapper_commit.md). -/

namespace Sys2Proof.Machine

/-- PWM_OVF (42 R125): the three copies, axis 0, 1, 2; no computation, no check, accepted in every state. -/
def execPwmOvf (s : State) : Result := .next (((s.commit 0).commit 1).commit 2)

end Sys2Proof.Machine
end

