-- ==== Sys2Proof/Machine/Latch.lean ====
section
/-! DEFINITION. The debounced digital input latch: the operations POLL and MS_TICK (43_input_latch.md). -/

namespace Sys2Proof.Machine

/-- POLL `b` (43 R139): toggle on the first asserted reading, wait for release, then ignore the input until the settle
interval has run out; the pattern 3 is refused (43 R141). -/
def execPoll (asserted : Bool) (s : State) : Result :=
  match s.bstate with
  | .idle => .next (if asserted then s.toggle else s)
  | .pressed => .next (if asserted then s else s.release)
  | .settle => .next s
  | .invalid => .refused .bstateInvalid

/-- MS_TICK (43 R142): counts only in `SETTLE`; the pattern 3 is refused (43 R141). -/
def execMsTick (s : State) : Result :=
  match s.bstate with
  | .settle => .next s.settleTick
  | .idle => .next s
  | .pressed => .next s
  | .invalid => .refused .bstateInvalid

end Sys2Proof.Machine
end

