-- ==== Sys2Proof/Machine/Sequencer.lean ====
section
/-! DEFINITION. The ADC sequencer: the operations START and CONV_DONE (40_adc_sequencer.md). -/

namespace Sys2Proof.Machine

/-- START (40 R86): no effect while a conversion is outstanding; else repair the index, select, trigger. -/
def execStart (s : State) : Result :=
  if s.busy then .next s
  else .next (s.repairIndex.trigger (repairedChannel s.ch))

/-- CONV_DONE `sample` (40 R87), the numbered steps in order; refused when no conversion is outstanding (40 R93) and, for
an operand no word spells, outside the contract (60_exceptions R173). -/
def execConvDone (sample : Nat) (s : State) : Result :=
  if s.cfg.sampleMax < sample then .refused .sampleOutOfRange
  else if s.busy = false then .refused .convDoneIdle
  else
    let i := repairedChannel s.ch
    let s1 := s.setBusy false
    let s2 := s1.repairIndex
    let s3 := s2.integrate i sample
    let s4 := s3.setCh (nextChannel i)
    .next (s4.trigger (nextChannel i))

end Sys2Proof.Machine
end

