-- ==== Sys2Proof/Machine/System.lean ====
section
/-! DEFINITION. The system operations NOP and RESET (44_system_ops.md). -/

namespace Sys2Proof.Machine

/-- NOP (44 R155): the identity in every state. -/
def execNop (s : State) : Result := .next s

/-- RESET (44 R156): system initialisation, accepted in every state. -/
def execReset (s : State) : Result := .next s.resetRegisters

end Sys2Proof.Machine
end

