-- ==== Sys2Proof/Machine/Dispatch.lean ====
section
/-! DEFINITION. Each input event selects its operation by its kind (30_encoding R70, 60_exceptions R177). -/

namespace Sys2Proof.Machine

def exec (i : Instr) (s : State) : Host.Outcome State Fault Refusal :=
  match i with
  | .nop => Sys2Proof.Machine.execNop s
  | .start => Sys2Proof.Machine.execStart s
  | .convDone sample => Sys2Proof.Machine.execConvDone sample s
  | .pwmOvf => Sys2Proof.Machine.execPwmOvf s
  | .poll asserted => Sys2Proof.Machine.execPoll asserted s
  | .msTick => Sys2Proof.Machine.execMsTick s
  | .reset => Sys2Proof.Machine.execReset s

end Sys2Proof.Machine
end

