-- ==== Sys2Proof/Machine/Step.lean ====
section
/-! DEFINITION. One step: the next event of the trace, served as one atomic operation (00_scope R13). -/

namespace Sys2Proof.Machine

/-- One step: the event at the index is served and the index moves on; with the trace exhausted nothing happens
(log entry 8). -/
def step (s : State) : Host.Outcome State Fault Refusal :=
  match fetch s with
  | .error r => .refused r
  | .ok none => .next s
  | .ok (some i) =>
    match exec i s with
    | .next t => .next t.advance
    | .fault f => .fault f
    | .refused r => .refused r

/-- The state with one event word of the opcode table loaded as its trace, to be run next (log entry 9). -/
def State.withFetchWord (s : State) (nbits w : Nat) : State :=
  s.load (wordBytes (BitVec.ofNat 16 (w % 2 ^ nbits)))

end Sys2Proof.Machine
end

