-- ==== Sys2Proof/Machine/TraceText.lean ====
section
/-! DEFINITION. The text of a trace: one event per line (30_encoding R73), the pseudo-operations with their expansions
(30_encoding R74), a printer and a parser. The text is a model's boundary; the hardware has none. -/

namespace Sys2Proof.Machine

/-! ### Pseudo-operations -/

/-- What a line of trace text spells: an event, or a pseudo-operation other than `rep` (30_encoding R73, R74). -/
inductive Pseudo where
  | event (i : Instr)
  | press
  | release
  | wait (k : Nat)
  | hold (k : Nat)
  | idle (k : Nat)
  | boot
  deriving DecidableEq, Repr

/-- `rep <k>`: a block of events repeated `k` times, in order (30_encoding R74). -/
def repeatEvents (k : Nat) (is : List Instr) : List Instr := (List.replicate k is).flatten

/-- The exact expansion of each pseudo-operation (30_encoding R74). -/
def Pseudo.expand : Pseudo → List Instr
  | .event i => [i]
  | .press => [.poll true]
  | .release => [.poll false]
  | .wait k => repeatEvents k [.msTick]
  | .hold k => repeatEvents k [.msTick, .poll true]
  | .idle k => repeatEvents k [.msTick, .poll false]
  | .boot => [.reset, .start]

/-! ### Text -/

/-- The words of the text, as characters (30_encoding R73, R74). -/
def kwNop : List Char := ['n', 'o', 'p']
def kwStart : List Char := ['s', 't', 'a', 'r', 't']
def kwConv : List Char := ['c', 'o', 'n', 'v']
def kwOvf : List Char := ['o', 'v', 'f']
def kwPoll : List Char := ['p', 'o', 'l', 'l']
def kwMs : List Char := ['m', 's']
def kwReset : List Char := ['r', 'e', 's', 'e', 't']
def kwPress : List Char := ['p', 'r', 'e', 's', 's']
def kwRelease : List Char := ['r', 'e', 'l', 'e', 'a', 's', 'e']
def kwWait : List Char := ['w', 'a', 'i', 't']
def kwHold : List Char := ['h', 'o', 'l', 'd']
def kwIdle : List Char := ['i', 'd', 'l', 'e']
def kwRep : List Char := ['r', 'e', 'p']
def kwBoot : List Char := ['b', 'o', 'o', 't']

/-- The braces around a `rep` block, U+007B and U+007D. -/
def openBrace : Char := Char.ofNat 123
def closeBrace : Char := Char.ofNat 125

/-- Prints one event as its line of text, without the line break; operands are decimal (30_encoding R73). -/
def printEvent : Instr → List Char
  | .nop => kwNop
  | .start => kwStart
  | .convDone s => kwConv ++ ' ' :: Nat.toDigits 10 s
  | .pwmOvf => kwOvf
  | .poll b => kwPoll ++ ' ' :: Nat.toDigits 10 (if b then 1 else 0)
  | .msTick => kwMs
  | .reset => kwReset

/-- Prints a trace, one event per line (30_encoding R73). -/
def printTrace : List Instr → List Char
  | [] => []
  | i :: is => printEvent i ++ '\n' :: printTrace is

/-- A token of the text. -/
inductive Token where
  | word (cs : List Char)
  | openRep
  | closeRep
  | newline
  deriving DecidableEq, Repr

/-- The word read so far, kept in reverse, as a token, if there is one. -/
def endWord (cur : List Char) : List Token := if cur = [] then [] else [.word cur.reverse]

/-- The tokens of a text: `#` starts a comment that runs to the end of the line (30_encoding R73); blanks separate words
(log entry 16). -/
def tokens : (inComment : Bool) → (cur : List Char) → List Char → List Token
  | _, cur, [] => endWord cur
  | inComment, cur, ch :: rest =>
    if ch = '\n' then endWord cur ++ .newline :: tokens false [] rest
    else if inComment then tokens true [] rest
    else if ch = '#' then endWord cur ++ tokens true [] rest
    else if ch = ' ' || ch = '\t' || ch = '\r' then endWord cur ++ tokens false [] rest
    else if ch = openBrace then endWord cur ++ .openRep :: tokens false [] rest
    else if ch = closeBrace then endWord cur ++ .closeRep :: tokens false [] rest
    else tokens false (ch :: cur) rest

/-- The value of a decimal digit. -/
def digitValue (ch : Char) : Option Nat :=
  if '0'.toNat ≤ ch.toNat && ch.toNat ≤ '9'.toNat then some (ch.toNat - '0'.toNat) else none

/-- The decimal number spelt by digits after the value read so far. -/
def decimalFrom : Nat → List Char → Option Nat
  | n, [] => some n
  | n, ch :: rest =>
    match digitValue ch with
    | some d => decimalFrom (10 * n + d) rest
    | none => none

/-- The decimal number a word spells; no word spells one without a digit (30_encoding R73). -/
def decimal (cs : List Char) : Option Nat := if cs = [] then none else decimalFrom 0 cs

/-- Why a text is refused: "a syntax error and the whole trace is refused" (30_encoding R73). -/
inductive TextError where
  /-- a line that is no event and no pseudo-operation, or whose operand is out of range -/
  | badLine (line : List (List Char))
  /-- a `rep` block that is opened or closed where none can be -/
  | badBlock
  deriving DecidableEq, Repr

/-- The pseudo-operation with a count operand, by its word (30_encoding R74). -/
def countedPseudo (w : List Char) (k : Nat) : Option Pseudo :=
  if w = kwWait then some (.wait k)
  else if w = kwHold then some (.hold k)
  else if w = kwIdle then some (.idle k)
  else none

/-- A line of one word (30_encoding R73, R74). -/
def bareLine (w : List Char) : Option Pseudo :=
  if w = kwNop then some (.event .nop)
  else if w = kwStart then some (.event .start)
  else if w = kwOvf then some (.event .pwmOvf)
  else if w = kwMs then some (.event .msTick)
  else if w = kwReset then some (.event .reset)
  else if w = kwPress then some .press
  else if w = kwRelease then some .release
  else if w = kwBoot then some .boot
  else none

/-- A line of a word and a decimal operand, the operand in range (30_encoding R73, R74). -/
def operandLine (c : Config) (w : List Char) (k : Nat) : Option Pseudo :=
  if w = kwConv then (if k ≤ c.sampleMax then some (.event (.convDone k)) else none)
  else if w = kwPoll then
    (if k = 0 then some (.event (.poll false)) else if k = 1 then some (.event (.poll true)) else none)
  else countedPseudo w k

/-- The events of one line, given as its words; an empty line spells none (log entry 16). -/
def parseLine (c : Config) (line : List (List Char)) : Except TextError (List Instr) :=
  match line with
  | [] => .ok []
  | [w] =>
    match bareLine w with
    | some p => .ok p.expand
    | none => .error (.badLine line)
  | [w, d] =>
    match (decimal d).bind (operandLine c w) with
    | some p => .ok p.expand
    | none => .error (.badLine line)
  | _ => .error (.badLine line)

/-- The count of a `rep` line, given as the words before its brace (30_encoding R74). -/
def repCount (line : List (List Char)) : Option Nat :=
  match line with
  | [w, d] => if w = kwRep then decimal d else none
  | _ => none

/-- Parses tokens: `stack` holds, for each open `rep` block, its count and the events before it; `acc` the events of the
block being read; `line` the words of the line being read, last first. A brace ends a line (log entry 16). -/
def parseTokens (c : Config) (stack : List (Nat × List Instr)) (acc : List Instr) (line : List (List Char)) :
    List Token → Except TextError (List Instr)
  | [] =>
    match parseLine c line.reverse with
    | .error e => .error e
    | .ok is => if stack = [] then .ok (acc ++ is) else .error .badBlock
  | .word w :: rest => parseTokens c stack acc (w :: line) rest
  | .newline :: rest =>
    match parseLine c line.reverse with
    | .error e => .error e
    | .ok is => parseTokens c stack (acc ++ is) [] rest
  | .openRep :: rest =>
    match repCount line.reverse with
    | none => .error .badBlock
    | some k => parseTokens c ((k, acc) :: stack) [] [] rest
  | .closeRep :: rest =>
    match parseLine c line.reverse, stack with
    | .error e, _ => .error e
    | .ok _, [] => .error .badBlock
    | .ok is, (k, before) :: below => parseTokens c below (before ++ repeatEvents k (acc ++ is)) [] rest

/-- The events a text spells, or the reason it is refused whole (30_encoding R73, R74). -/
def parseText (c : Config) (text : List Char) : Except TextError (List Instr) :=
  parseTokens c [] [] [] (tokens false [] text)

end Sys2Proof.Machine
end

