-- ==== Sys2Proof/Safety.lean ====
section
/-! DEFINITION. The terms claims use: runs of events, what they log, the environment's contract (60_exceptions R173), and
the invariants of reachable states (10_state R34). -/

namespace Sys2Proof.Machine

/-! ### Runs -/

/-- The run of a list of events, in order, stopping at the first refusal (00_scope R13, R16). -/
def execAll : List Instr → State → Result
  | [], s => .next s
  | i :: is, s =>
    match exec i s with
    | .next t => execAll is t
    | .fault f => .fault f
    | .refused r => .refused r

/-- The event is one the block's contract covers in this state (60_exceptions R173, R174). -/
def Served (i : Instr) (s : State) : Prop :=
  match i with
  | .convDone n => s.busy = true ∧ n ≤ s.cfg.sampleMax
  | .poll _ => s.bstate ≠ .invalid
  | .msTick => s.bstate ≠ .invalid
  | .nop => True
  | .start => True
  | .pwmOvf => True
  | .reset => True

/-! ### What a run logs -/

/-- The channels of the `SEL` actions of a log, oldest first. -/
def selections : List Action → List Channel
  | [] => []
  | .sel i :: as => i :: selections as
  | .trig :: as => selections as
  | .setDuty _ _ :: as => selections as

/-- The number of `TRIG` actions of a log. -/
def triggers (as : List Action) : Nat := as.count .trig

/-- The number of CONV_DONE events of a trace. -/
def completions : List Instr → Nat
  | [] => 0
  | .convDone _ :: is => completions is + 1
  | .nop :: is => completions is
  | .start :: is => completions is
  | .pwmOvf :: is => completions is
  | .poll _ :: is => completions is
  | .msTick :: is => completions is
  | .reset :: is => completions is

/-- The number of MS_TICK events of a trace. -/
def ticks (is : List Instr) : Nat := is.count .msTick

/-- `busy`, as a number. -/
def busyCount (s : State) : Nat := if s.busy then 1 else 0

/-- Every `SEL` of a log is immediately followed by a `TRIG` (40 R88). -/
def SelThenTrig : List Action → Prop
  | [] => True
  | .sel _ :: .trig :: as => SelThenTrig as
  | .sel _ :: _ => False
  | .trig :: as => SelThenTrig as
  | .setDuty _ _ :: as => SelThenTrig as

/-! ### Well-formed states and the invariants -/

/-- `TICK_MIN[a] <= v <= TICK_MAX[a]`. -/
def InBounds (c : Config) (a : Axis) (v : Tick) : Prop :=
  (c.bounds a).min ≤ v.toNat ∧ v.toNat ≤ (c.bounds a).max

/-- The invariants of every reachable state, lines 1 to 7 of 10_state R34. -/
structure Inv (s : State) : Prop where
  /-- the model is stated only over well-formed configurations (00_scope R11) -/
  cfg_wf : s.cfg.wf = true
  /-- line 1 -/
  ch_valid : s.ch.toNat < numChannels
  /-- line 2 -/
  pos_le : ∀ i, s.pos i ≤ s.cfg.pmaxq
  /-- line 3 -/
  duty_map : ∀ i, s.duty (axisOf i) = mapDuty s.cfg i (s.pos i)
  /-- line 4 -/
  duty_bounds : ∀ a, InBounds s.cfg a (s.duty a)
  /-- line 5 -/
  duty_claw : s.duty clawAxis = clawTick s.cfg s.claw
  /-- line 6, the value -/
  cmp_bounds : ∀ a v, s.cmp a = some v → InBounds s.cfg a v
  /-- line 6, all or none -/
  cmp_together : ∀ a b, s.cmp a = none → s.cmp b = none
  /-- the pattern `bstate = 3` is reached by no operation (10_state R28) -/
  bstate_valid : s.bstate ≠ .invalid
  /-- line 7, outside `SETTLE` -/
  sc_idle : s.bstate ≠ .settle → s.settleCount = 0
  /-- line 7, in `SETTLE` -/
  sc_settle : s.bstate = .settle → 1 ≤ s.settleCount ∧ s.settleCount ≤ s.cfg.settleMs

/-! ### Agreement of two states, for frames and noninterference -/

/-- The fields no operation writes are the same: the configuration, the trace and its index. -/
def SameSetting (s t : State) : Prop := t.cfg = s.cfg ∧ t.trace = s.trace ∧ t.idx = s.idx

/-- The sequencer's registers are the same (40 R85). -/
def SameSequencer (s t : State) : Prop := t.ch = s.ch ∧ t.busy = s.busy

/-- The integrator's registers of one channel are the same (41 R100). -/
def SameChannel (i : Channel) (s t : State) : Prop := t.pos i = s.pos i ∧ t.duty (axisOf i) = s.duty (axisOf i)

/-- The latch's registers are the same, the claw axis's duty-cycle value among them (43 R135). -/
def SameLatch (s t : State) : Prop :=
  t.claw = s.claw ∧ t.bstate = s.bstate ∧ t.settleCount = s.settleCount ∧ t.duty clawAxis = s.duty clawAxis

/-- The compare registers are the same. -/
def SameCompare (s t : State) : Prop := ∀ a, t.cmp a = s.cmp a

/-- All registers of the block are the same; the output log may differ (20_memory R54). -/
def SameRegisters (s t : State) : Prop :=
  SameSequencer s t ∧ (∀ i, SameChannel i s t) ∧ SameLatch s t ∧ SameCompare s t

end Sys2Proof.Machine
end

