-- ==== Sys2Proof/Certificates/Slice0/Obligations.lean ====
section
/-! DEFINITION. The statements about the block, for the provers. Each docstring names the rule of spec/ it formalises; one
that rests on an inference the spec marks as its own (`[derived: ...]`), or on a choice of this model, says so. -/

open Sys2Proof Sys2Proof.Machine

/-! ### Encoding -/

/-- A few words of the opcode table, written out bit by bit from 30_encoding R68, under REF. -/
def Obligations.TableWordsDecode : Prop :=
  decode Config.ref 0b0000000000000000#16 = .ok .nop ∧
  decode Config.ref 0b0001000000000000#16 = .ok .start ∧
  decode Config.ref 0b0010001111111111#16 = .ok (.convDone 1023) ∧
  decode Config.ref 0b0010000100101100#16 = .ok (.convDone 300) ∧
  decode Config.ref 0b0011000000000000#16 = .ok .pwmOvf ∧
  decode Config.ref 0b0100000000000001#16 = .ok (.poll true) ∧
  decode Config.ref 0b0100000000000000#16 = .ok (.poll false) ∧
  decode Config.ref 0b0101000000000000#16 = .ok .msTick ∧
  decode Config.ref 0b1111000000000000#16 = .ok .reset ∧
  decode Config.ref 0b0010010000000000#16 = .error (.sampleTooLarge 0x2400) ∧
  decode Config.ref 0b1111111111111111#16 = .error (.nonzeroArg 0xFFFF)

/-- 30_encoding R68: a word spells a row exactly when `(w & mask) = match`; in the CONV_DONE and POLL rows the marked bits
are the operand; the CONV_DONE mask of REF is `0xFC00`. -/
def Obligations.MatchAndMaskOfEveryRow : Prop :=
  ∀ c : Config, c.wf = true → ∀ w : EventWord,
    (decode c w = .ok .nop ↔ w &&& 0xFFFF = 0x0000) ∧
    (decode c w = .ok .start ↔ w &&& 0xFFFF = 0x1000) ∧
    (∀ s, decode c w = .ok (.convDone s) ↔
      w &&& (0xF000 ||| (0x0FFF &&& ~~~(BitVec.ofNat 16 c.sampleMax))) = 0x2000 ∧ s = (w &&& 0x0FFF).toNat) ∧
    (decode c w = .ok .pwmOvf ↔ w &&& 0xFFFF = 0x3000) ∧
    (∀ b, decode c w = .ok (.poll b) ↔ w &&& 0xFFFE = 0x4000 ∧ b = w.getLsbD 0) ∧
    (decode c w = .ok .msTick ↔ w &&& 0xFFFF = 0x5000) ∧
    (decode c w = .ok .reset ↔ w &&& 0xFFFF = 0xF000) ∧
    (0xF000#16 ||| (0x0FFF &&& ~~~(BitVec.ofNat 16 Config.ref.sampleMax))) = 0xFC00

/-- 30_encoding R71: the decoder is the rule's pseudocode on `op = w[15:12]` and `arg = w[11:0]`, and `encode` is its inverse
on the non-reserved answers, in both directions, for every operation and every operand the encoding admits. -/
def Obligations.DecodeAndEncodeAreInverse : Prop :=
  ∀ c : Config, c.wf = true →
    (∀ w : EventWord, ∀ op arg : Nat, op = w.toNat / 4096 → arg = w.toNat % 4096 →
      (decode c w).toOption =
        if op = 0x0 ∧ arg = 0 then some .nop
        else if op = 0x1 ∧ arg = 0 then some .start
        else if op = 0x2 ∧ arg ≤ c.sampleMax then some (.convDone arg)
        else if op = 0x3 ∧ arg = 0 then some .pwmOvf
        else if op = 0x4 ∧ arg / 2 = 0 then some (.poll (arg % 2 = 1))
        else if op = 0x5 ∧ arg = 0 then some .msTick
        else if op = 0xF ∧ arg = 0 then some .reset
        else none) ∧
    (∀ (w : EventWord) (i : Instr), decode c w = .ok i → encode i = w) ∧
    (∀ i : Instr, i.wf c = true → decode c (encode i) = .ok i)

/-- The spec's own inference at the end of 30_encoding R71 (`[derived: from rule R68]`): with `SW = 10` there are 1031
non-reserved words. -/
def Obligations.NonReservedWordsAre1031 : Prop :=
  ∃ l : List EventWord, l.Nodup ∧ l.length = 1031 ∧ ∀ w, w ∈ l ↔ ∃ i, decode Config.ref w = .ok i

/-- 30_encoding R69: which words are reserved, that the all-zero word is NOP and the all-one word reserved, and that a trace
holding a reserved word is refused as a whole: no step of it runs, whatever the index. -/
def Obligations.ReservedWordsRefusedWhole : Prop :=
  (∀ c : Config, c.wf = true → ∀ w : EventWord, ∀ op arg : Nat, op = w.toNat / 4096 → arg = w.toNat % 4096 →
    ((∃ e, decode c w = .error e) ↔
      (0x6 ≤ op ∧ op ≤ 0xE) ∨ ((op = 0x0 ∨ op = 0x1 ∨ op = 0x3 ∨ op = 0x5 ∨ op = 0xF) ∧ arg ≠ 0) ∨
      (op = 0x2 ∧ c.sampleMax < arg) ∨ (op = 0x4 ∧ arg / 2 ≠ 0))) ∧
  (∀ c : Config, decode c 0x0000 = .ok .nop ∧ ∃ e, decode c 0xFFFF = .error e) ∧
  (∀ (s : State) (ws : List EventWord) (w : EventWord), s.cfg.wf = true → s.trace = ws.flatMap wordBytes → w ∈ ws →
    (∃ e, decode s.cfg w = .error e) → ∃ e, step s = .refused (.badTrace e))

/-- 30_encoding R75: a stored trace is the words in order, each as two bytes, the less significant first, with nothing
between; a byte list of odd length is not a trace; the rule's example. The decoder reads every stored trace back. -/
def Obligations.StoredTraceIsLittleEndianWords : Prop :=
  (∀ (i : Instr) (is : List Instr), encodeTrace (i :: is) =
    BitVec.ofNat 8 ((encode i).toNat % 256) :: BitVec.ofNat 8 ((encode i).toNat / 256) :: encodeTrace is) ∧
  (∀ c : Config, c.wf = true → ∀ is : List Instr, (∀ i ∈ is, i.wf c = true) → decodeTrace c (encodeTrace is) = .ok is) ∧
  (∀ (c : Config) (bytes : List Byte), bytes.length % 2 = 1 → decodeTrace c bytes = .error .oddLength) ∧
  encodeTrace [.reset, .start, .convDone 1023, .pwmOvf] = [0x00, 0xF0, 0x00, 0x10, 0xFF, 0x23, 0x00, 0x30]

/-- The text of 30_encoding R73: every trace of events, printed one event per line, parses back to itself. The treatment of
blanks and empty lines is this model's (log entry 16). -/
def Obligations.TraceTextRoundTrip : Prop :=
  ∀ c : Config, c.wf = true → ∀ is : List Instr, (∀ i ∈ is, i.wf c = true) → parseText c (printTrace is) = .ok is

/-! ### The step -/

/-- A step runs the decoded event at the index, whatever it is, and the index moves on by exactly one (10_state R21 gives the
index; that the trace stands in State is this model's choice, log entry 7). -/
def Obligations.StepRunsTheEventAtTheIndex : Prop :=
  ∀ (s : State) (is : List Instr) (i : Instr), s.cfg.wf = true → decodeTrace s.cfg s.trace = .ok is → is[s.idx]? = some i →
    i.wf s.cfg = true ∧
    step s = match exec i s with
      | .next t => .next { t with idx := s.idx + 1 }
      | .fault f => .fault f
      | .refused r => .refused r

/-- This model's choice (log entry 8): with the trace exhausted, nothing happens. -/
def Obligations.StepAtTheEndOfTheTraceIsIdle : Prop :=
  ∀ (s : State) (is : List Instr), s.cfg.wf = true → decodeTrace s.cfg s.trace = .ok is → is.length ≤ s.idx → step s = .next s

/-- 00_scope R11: the ten lines, read as they stand there (the two rationals as rationals), are what `wf` checks, and a
configuration that fails one is refused before any operation runs. That a zero denominator of `POS_INIT`, which spells no
rational, is ill formed too is the model's choice (log entry 5). -/
def Obligations.IllFormedConfigurationIsRefused : Prop :=
  (∀ c : Config, c.posInitDen ≠ 0 →
    (c.wf = true ↔
      (numChannels = 2 ∧ numAxes = 3 ∧ clawAxis = 2) ∧
      (1 ≤ c.sw ∧ c.sw ≤ 12 ∧ c.sampleMax = 2 ^ c.sw - 1) ∧
      (0 < c.tLow ∧ c.tLow ≤ c.tHigh ∧ c.tHigh < c.sampleMax) ∧
      (1 ≤ c.rateNum ∧ 1 ≤ c.rateDen ∧ c.rateMax = (c.rateNum : ℚ) / c.rateDen) ∧
      1 ≤ c.positionMax ∧
      (0 ≤ c.posInit ∧ c.posInit ≤ c.positionMax ∧ ∃ k : ℤ, c.posInit * c.scale = k) ∧
      (∀ a, 0 ≤ (c.bounds a).min ∧ (c.bounds a).min ≤ (c.bounds a).max ∧ (c.bounds a).max < 2 ^ tickWidth) ∧
      ((c.bounds clawAxis).min ≤ c.clawOpenTick ∧ c.clawOpenTick ≤ (c.bounds clawAxis).max ∧
        (c.bounds clawAxis).min ≤ c.clawClosedTick ∧ c.clawClosedTick ≤ (c.bounds clawAxis).max) ∧
      0 ≤ c.settleMs ∧
      2 ≤ chIndexWidth)) ∧
  (∀ c : Config, c.posInitDen = 0 → c.wf = false) ∧
  (∀ s : State, s.cfg.wf = false → step s = .refused .configIllFormed)

/-! ### Reset -/

/-- 10_state R35: the value of every piece of state after power-on, for every well-formed configuration, and after a RESET
event, which leaves the log as it is. -/
def Obligations.ResetValues : Prop :=
  ∀ c : Config, c.wf = true → ∀ s : State, (s = State.powerOn c ∨ ∃ s0, s0.cfg = c ∧ exec .reset s0 = .next s) →
    s.ch = 0 ∧ s.busy = false ∧
    (∀ i, position c (s.pos i) = c.posInit) ∧
    (∀ i, ((s.duty (axisOf i)).toNat : ℤ) = mapRat c i c.posInit) ∧
    s.claw = c.clawInit ∧ (s.duty clawAxis).toNat = clawTickNat c c.clawInit ∧
    (∀ a, s.cmp a = none) ∧ s.bstate = .idle ∧ s.settleCount = 0 ∧
    (State.powerOn c).out = [] ∧ (∀ s0, exec .reset s0 = .next s → s.out = s0.out)

/-- The reset state under the reference configuration, `S0` of 95_test_vectors.md. That `State.reset` carries REF is this
model's choice (log entry 2). -/
def Obligations.ReferenceResetState : Prop :=
  State.reset.ch = 0 ∧ State.reset.busy = false ∧ State.reset.pos0 = 224000 ∧ State.reset.pos1 = 224000 ∧
  State.reset.duty0 = 1500 ∧ State.reset.duty1 = 1500 ∧ State.reset.duty2 = 1100 ∧
  State.reset.cmp0 = none ∧ State.reset.cmp1 = none ∧ State.reset.cmp2 = none ∧
  State.reset.claw = .closed ∧ State.reset.bstate = .idle ∧ State.reset.sc = 0 ∧ State.reset.out = []

/-- 44 R156: RESET completes in every state, reachable or not, with the registers of power-on; it keeps the log, emits no
action, and touches neither the configuration nor the trace. Under a well-formed configuration the position registers hold
`POS_INIT * Q` whole. -/
def Obligations.ResetOperation : Prop :=
  encode .reset = 0xF000 ∧
  (∀ s : State, exec .reset s = .next
    { s with
      ch := 0, busy := false
      pos0 := BitVec.ofNat _ s.cfg.posInitQ, pos1 := BitVec.ofNat _ s.cfg.posInitQ
      duty0 := mapDuty s.cfg 0 s.cfg.posInitQ, duty1 := mapDuty s.cfg 1 s.cfg.posInitQ
      claw := s.cfg.clawInit, duty2 := clawTick s.cfg s.cfg.clawInit
      cmp0 := none, cmp1 := none, cmp2 := none
      bstate := .idle, sc := 0 }) ∧
  ∀ c : Config, c.wf = true → (BitVec.ofNat c.posWidth c.posInitQ).toNat = c.posInitQ

/-- 70 R192: after reset the block is idle: no conversion, no action; the only operations that change anything are START
(sampling begins), PWM_OVF (the reset ticks are committed), POLL 1 (the claw toggles) and RESET itself, which leads back to the
state of reset; a CONV_DONE before the first START is refused. -/
def Obligations.IdleAfterReset : Prop :=
  ∀ c : Config, (State.powerOn c).busy = false ∧ (State.powerOn c).out = [] ∧
    (∀ (i : Instr) (t : State), exec i (State.powerOn c) = .next t → t ≠ State.powerOn c →
      i = .start ∨ i = .pwmOvf ∨ i = .poll true) ∧
    (∃ t, exec .start (State.powerOn c) = .next t ∧ t.busy = true) ∧
    (∃ t, exec .pwmOvf (State.powerOn c) = .next t ∧ ∀ a, t.cmp a = some ((State.powerOn c).duty a)) ∧
    (∃ t, exec (.poll true) (State.powerOn c) = .next t ∧ t.claw = flipClaw c.clawInit) ∧
    exec .reset (State.powerOn c) = .next (State.powerOn c) ∧
    (∀ (is : List Instr) (t : State) (n : Nat), .start ∉ is → execAll is (State.powerOn c) = .next t → n ≤ c.sampleMax →
      exec (.convDone n) t = .refused .convDoneIdle)

/-- The boot order of 70 R193, steps 2 and 3: from any state, `boot` (RESET, START) ends with sampling begun on channel 0,
`SEL(0)`, `TRIG` emitted, and every other register at its reset value. -/
def Obligations.BootStartsSamplingChannelZero : Prop :=
  ∀ s : State, ∃ t, execAll Pseudo.boot.expand s = .next t ∧ t.ch = 0 ∧ t.busy = true ∧
    t.out = s.out ++ [.sel 0, .trig] ∧ (∀ i, SameChannel i (State.powerOn s.cfg) t) ∧
    SameLatch (State.powerOn s.cfg) t ∧ SameCompare (State.powerOn s.cfg) t ∧ SameSetting s t

/-! ### NOP -/

/-- 44 R155: NOP is the identity in every state, and any number of NOP events may be inserted anywhere in a trace without
changing the final state or the log. -/
def Obligations.NopChangesNothingAnywhere : Prop :=
  encode .nop = 0x0000 ∧
  (∀ s : State, exec .nop s = .next s) ∧
  (∀ (before after : List Instr) (n : Nat) (s : State),
    execAll (before ++ List.replicate n .nop ++ after) s = execAll (before ++ after) s)

/-! ### The sequencer -/

/-- 40 R86: START completes in every state. While busy it does nothing; otherwise `ch` is repaired, `SEL(ch)` and `TRIG` are
emitted, `busy` is set, and nothing else changes. The rule's worked example. -/
def Obligations.StartOperation : Prop :=
  encode .start = 0x1000 ∧
  (∀ s : State, s.busy = true → exec .start s = .next s) ∧
  (∀ (s : State) (i : Channel), s.busy = false → i.val = (if 2 ≤ s.ch.toNat then 0 else s.ch.toNat) →
    exec .start s = .next { s with
      ch := if 2 ≤ s.ch.toNat then 0 else s.ch, busy := true, out := s.out ++ [.sel i, .trig] }) ∧
  (∃ t, exec .start State.reset = .next t ∧ t.ch = 0 ∧ t.busy = true ∧ t.out = [.sel 0, .trig] ∧
    exec .start t = .next t)

/-- 40 R87, with INTEGRATE of 41 R107: with a conversion outstanding, CONV_DONE `n` completes: channel `i` (`ch`, repaired)
gets the position and then the tick of the spec's rational formulas, `ch` moves to the next channel, `SEL` and `TRIG` are
emitted, `busy` is set again, and nothing else changes; with none outstanding it is refused. -/
def Obligations.ConvDoneOperation : Prop :=
  ∀ (s : State) (n : Nat) (i : Channel), s.cfg.wf = true → n ≤ s.cfg.sampleMax →
    i.val = (if 2 ≤ s.ch.toNat then 0 else s.ch.toNat) →
    (encode (.convDone n)).toNat = 0x2000 + n ∧
    (s.busy = false → exec (.convDone n) s = .refused .convDoneIdle) ∧
    (s.busy = true → ∃ t, exec (.convDone n) s = .next t ∧
      position s.cfg (t.pos i) = integrateRat s.cfg (position s.cfg (s.pos i)) n ∧
      ((t.duty (axisOf i)).toNat : ℤ) = mapRat s.cfg i (position s.cfg (t.pos i)) ∧
      t.ch.toNat = (i.val + 1) % 2 ∧ t.busy = true ∧
      t.out = s.out ++ [.sel (i + 1), .trig] ∧
      (∀ j, j ≠ i → SameChannel j s t) ∧ SameLatch s t ∧ SameCompare s t ∧ SameSetting s t)

/-- 40 R93: CONV_DONE with no conversion outstanding is refused, in every state, neither integrated nor dropped; so is a
sample no word can spell, which is this model's reading of 60_exceptions R173 (log entry 10). -/
def Obligations.StrayCompletionIsRefused : Prop :=
  ∀ (s : State) (n : Nat),
    (s.busy = false → n ≤ s.cfg.sampleMax → exec (.convDone n) s = .refused .convDoneIdle) ∧
    (s.cfg.sampleMax < n → exec (.convDone n) s = .refused .sampleOutOfRange)

/-- 40 R90: a sequencer that reads `ch >= N` goes on exactly as if it had found 0, and no operation ever writes a value
`>= N` into `ch`. -/
def Obligations.IndexRepairServesChannelZero : Prop :=
  (∀ s : State, 2 ≤ s.ch.toNat → s.busy = false → exec .start s = exec .start { s with ch := 0 }) ∧
  (∀ (s : State) (n : Nat), 2 ≤ s.ch.toNat → s.busy = true → exec (.convDone n) s = exec (.convDone n) { s with ch := 0 }) ∧
  (∀ (i : Instr) (s t : State), exec i s = .next t → 2 ≤ t.ch.toNat → t.ch = s.ch)

/-- The spec's inference 40 R88 (`[derived: ...]`): in any run from power-on that contains no RESET, the `k`-th `SEL` is
`SEL(k mod 2)`, every `SEL` is immediately followed by a `TRIG`, `ch` is the count of completions so far modulo 2, and the
next CONV_DONE changes no channel but the one of that number. -/
def Obligations.RoundRobinVisitingOrder : Prop :=
  ∀ (c : Config) (is : List Instr) (t : State), .reset ∉ is → execAll is (State.powerOn c) = .next t →
    (∀ (k : Nat) (i : Channel), (selections t.out)[k]? = some i → i.val = k % 2) ∧
    SelThenTrig t.out ∧
    t.ch.toNat = completions is % 2 ∧
    (∀ (n : Nat) (u : State), exec (.convDone n) t = .next u →
      ∀ j : Channel, j.val ≠ completions is % 2 → SameChannel j t u)

/-- The spec's inferences 40 R89 and 10_state R34 line 8 (`[derived: ...]`): over any run without RESET, from any state,
the triggers emitted and the completions performed differ by the change of `busy`; from power-on the excess is `busy`, so it
is never more than 1. -/
def Obligations.AtMostOneConversionOutstanding : Prop :=
  (∀ (is : List Instr) (s t : State), .reset ∉ is → execAll is s = .next t →
    triggers t.out + busyCount s = triggers s.out + completions is + busyCount t) ∧
  (∀ (c : Config) (is : List Instr) (t : State), .reset ∉ is → execAll is (State.powerOn c) = .next t →
    triggers t.out = completions is + busyCount t ∧ busyCount t ≤ 1)

/-- The stall of 40 R92 (93 U6): while no completion arrives, `busy` stays set, START has no effect, and no position and no
smoothed tick moves, whatever else happens short of RESET. -/
def Obligations.LostCompletionStallsSampling : Prop :=
  ∀ (is : List Instr) (s t : State), s.busy = true → .reset ∉ is → completions is = 0 → execAll is s = .next t →
    SameSequencer s t ∧ (∀ i, SameChannel i s t) ∧ exec .start t = .next t

/-! ### The integrator -/

/-- 41 R102 to R105: the position register's step is the spec's formula over the rationals, in each of the three cases, with
the clamp in every case, from any register content and for every sample. -/
def Obligations.IntegratorMatchesRationalFormulas : Prop :=
  ∀ (c : Config) (posq s : Nat), c.wf = true → s ≤ c.sampleMax →
    (c.tHigh < s → position c (integrateQ c posq s) =
      clamp (position c posq + (c.rateNum / c.rateDen : ℚ) * ((s - c.tHigh) / (c.sampleMax - c.tHigh))) 0 c.positionMax) ∧
    (s < c.tLow → position c (integrateQ c posq s) =
      clamp (position c posq + (c.rateNum / c.rateDen : ℚ) * ((s - c.tLow) / c.tLow)) 0 c.positionMax) ∧
    (c.tLow ≤ s → s ≤ c.tHigh → position c (integrateQ c posq s) = clamp (position c posq) 0 c.positionMax)

/-- The spec's inferences 41 R108 lines 1 to 4 (`[derived: ...]`): the dead zone leaves a position in range unchanged, the
bounds are idempotent, the step is monotone in the sample and in the old position, and one call moves a position in range by
at most `RATE_MAX`. -/
def Obligations.IntegratorMonotoneAndRateLimited : Prop :=
  ∀ (c : Config) (p : Nat) (s : Nat), c.wf = true → s ≤ c.sampleMax → p ≤ c.pmaxq →
    (c.tLow ≤ s → s ≤ c.tHigh → integrateQ c p s = p) ∧
    (c.tHigh < s → integrateQ c c.pmaxq s = c.pmaxq) ∧
    (s < c.tLow → integrateQ c 0 s = 0) ∧
    (∀ s', s ≤ s' → s' ≤ c.sampleMax → delta c s ≤ delta c s' ∧ integrateQ c p s ≤ integrateQ c p s') ∧
    (∀ p', p ≤ p' → integrateQ c p s ≤ integrateQ c p' s) ∧
    |position c (integrateQ c p s) - position c p| ≤ c.rateMax

/-- The spec's inference 41 R108 line 5 (`[derived: ...]`): `k` calls with the largest sample give
`min(POSITION_MAX, POS_INIT + k * RATE_MAX)`, and with the sample 0 give `max(0, POS_INIT - k * RATE_MAX)`. -/
def Obligations.FullScaleSamplesIterate : Prop :=
  ∀ (c : Config) (k : Nat), c.wf = true →
    position c ((fun p => integrateQ c p c.sampleMax)^[k] c.posInitQ) = min (c.positionMax : ℚ) (c.posInit + k * c.rateMax) ∧
    position c ((fun p => integrateQ c p 0)^[k] c.posInitQ) = max 0 (c.posInit - k * c.rateMax)

/-- The spec's inference 00_scope R12 (`[derived: ...]`): scenario 1 of the source, run on the machine from power-on (START,
then 100 full-scale completions for each of the two channels), brings every channel to `POSITION_MAX` exactly when
`POS_INIT + 100 * RATE_MAX >= POSITION_MAX`, and then its tick is `TICK_MAX`. -/
def Obligations.ScenarioOneReachesTheTop : Prop :=
  ∀ c : Config, c.wf = true →
    ∃ t, execAll (.start :: List.replicate 200 (.convDone c.sampleMax)) (State.powerOn c) = .next t ∧
      ∀ i : Channel,
        (position c (t.pos i) = c.positionMax ↔ (c.positionMax : ℚ) ≤ c.posInit + 100 * c.rateMax) ∧
        ((c.positionMax : ℚ) ≤ c.posInit + 100 * c.rateMax →
          (t.duty (axisOf i)).toNat = (c.bounds (axisOf i)).max)

/-- Scenario 2 of the source (S8.7 of 95_test_vectors.md), for any run: from a state that meets the invariants, if every
completion carries a dead-zone sample and no RESET occurs, every position and every smoothed tick stays exactly as it was. -/
def Obligations.DeadZoneRunMovesNothing : Prop :=
  ∀ (is : List Instr) (s t : State), Inv s → .reset ∉ is →
    (∀ n, .convDone n ∈ is → s.cfg.tLow ≤ n ∧ n ≤ s.cfg.tHigh) → execAll is s = .next t → ∀ i, SameChannel i s t

/-- The independence of the channels in 41 R100: what a completion does to the channel it serves depends on nothing but the
configuration, the sample and that channel's own position; two states that agree there, and whatever else they hold, end with
the same position and tick. -/
def Obligations.ChannelsAreIndependent : Prop :=
  ∀ (s s' t t' : State) (n : Nat) (i : Channel), s'.cfg = s.cfg →
    i.val = (if 2 ≤ s.ch.toNat then 0 else s.ch.toNat) → i.val = (if 2 ≤ s'.ch.toNat then 0 else s'.ch.toNat) →
    s'.pos i = s.pos i → exec (.convDone n) s = .next t → exec (.convDone n) s' = .next t' → SameChannel i t t'

/-! ### The mapper -/

/-- 42 R120, R121, R122: the tick written for a position register is the clamp of the floor of the spec's exact rational
formula, and it is written whole. -/
def Obligations.MapperMatchesFloorFormula : Prop :=
  ∀ (c : Config) (i : Channel) (posq : Nat), c.wf = true →
    ((mapDuty c i posq).toNat : ℤ) =
      clamp (((c.bounds (axisOf i)).min : ℤ) +
          ⌊((posq : ℚ) / c.scale) * (((c.bounds (axisOf i)).max : ℚ) - (c.bounds (axisOf i)).min) / c.positionMax⌋)
        (c.bounds (axisOf i)).min (c.bounds (axisOf i)).max

/-- The spec's inferences 42 R123 (`[derived: ...]`): MAP is monotone and within bounds for every rational position, exact at
both ends, constant on an empty span, and a call of INTEGRATE moves the tick of a position in range by at most
`ceil(RATE_MAX * SPAN / POSITION_MAX)`. -/
def Obligations.MapperMonotoneBoundedExactAtEnds : Prop :=
  ∀ (c : Config) (i : Channel), c.wf = true →
    (∀ p q : ℚ, p ≤ q → mapRat c i p ≤ mapRat c i q) ∧
    (∀ p : ℚ, ((c.bounds (axisOf i)).min : ℤ) ≤ mapRat c i p ∧ mapRat c i p ≤ (c.bounds (axisOf i)).max) ∧
    mapRat c i 0 = (c.bounds (axisOf i)).min ∧ mapRat c i c.positionMax = (c.bounds (axisOf i)).max ∧
    (tickSpan c i = 0 → ∀ p, mapRat c i p = (c.bounds (axisOf i)).min) ∧
    (∀ (p : ℚ) (s : Nat), 0 ≤ p → p ≤ c.positionMax → s ≤ c.sampleMax →
      |mapRat c i (integrateRat c p s) - mapRat c i p| ≤ ⌈c.rateMax * tickSpan c i / c.positionMax⌉)

/-- The self-correction of 60_exceptions R170 and 41 R105, R106: a completion leaves the channel it serves in range and with
the tick of its position, within the axis's bounds, from any register contents; a toggle does so for the claw axis. -/
def Obligations.CorruptRegistersHeal : Prop :=
  (∀ (s t : State) (n : Nat) (i : Channel), s.cfg.wf = true → i.val = (if 2 ≤ s.ch.toNat then 0 else s.ch.toNat) →
    exec (.convDone n) s = .next t →
    t.pos i ≤ s.cfg.pmaxq ∧ t.duty (axisOf i) = mapDuty s.cfg i (t.pos i) ∧
      InBounds s.cfg (axisOf i) (t.duty (axisOf i)) ∧ t.ch.toNat < 2) ∧
  (∀ s : State, s.cfg.wf = true → s.bstate = .idle → ∃ t, exec (.poll true) s = .next t ∧
    t.duty clawAxis = clawTick s.cfg t.claw ∧ InBounds s.cfg clawAxis (t.duty clawAxis))

/-! ### The commit -/

/-- 42 R125: PWM_OVF completes in every state: the three duty-cycle values are copied as they are, the three actions are
emitted in axis order, and nothing else changes. -/
def Obligations.PwmOvfOperation : Prop :=
  encode .pwmOvf = 0x3000 ∧
  ∀ s : State, exec .pwmOvf s = .next
    { s with
      cmp0 := some s.duty0, cmp1 := some s.duty1, cmp2 := some s.duty2
      out := s.out ++ [.setDuty 0 s.duty0, .setDuty 1 s.duty1, .setDuty 2 s.duty2] }

/-- The idempotent operations of 20_memory R54: a second PWM_OVF, RESET or START right after the first changes no register,
and the second START not even the log. -/
def Obligations.SecondCommitResetOrStartChangesNothing : Prop :=
  ∀ s : State,
    (∃ t u, exec .pwmOvf s = .next t ∧ exec .pwmOvf t = .next u ∧ SameRegisters t u) ∧
    (∃ t, exec .reset s = .next t ∧ exec .reset t = .next t) ∧
    (∃ t, exec .start s = .next t ∧ exec .start t = .next t)

/-- 20_memory R64: between two commits the compare registers keep their values whatever the duty-cycle values do, and a
PWM_OVF then copies the last ones. -/
def Obligations.CommitLatency : Prop :=
  ∀ (is : List Instr) (s t : State), .pwmOvf ∉ is → .reset ∉ is → execAll is s = .next t →
    SameCompare s t ∧ ∃ u, exec .pwmOvf t = .next u ∧ ∀ a, u.cmp a = some (t.duty a)

/-- 70 R201: over any run, every value a compare register comes to hold is one the axis's duty-cycle register held whole
between two operations of that run. -/
def Obligations.CommittedValuesWereDutyValues : Prop :=
  ∀ (is : List Instr) (s t : State) (a : Axis) (v : Tick), execAll is s = .next t → t.cmp a = some v →
    s.cmp a = some v ∨
      ∃ before after m, is = before ++ .pwmOvf :: after ∧ execAll before s = .next m ∧ m.duty a = v

/-- The free order of 20_memory R58: a commit right after or right before a completion copies the ticks from after it or from
before it, and no third value; both orders end with the same sequencer, channels and latch, and the log holds the same kinds of
action in the order of the two events, the commit's with the ticks it copied. -/
def Obligations.CommitSeesOldOrNewTick : Prop :=
  ∀ (s : State) (n : Nat) (i : Channel), s.busy = true → n ≤ s.cfg.sampleMax →
    i.val = (if 2 ≤ s.ch.toNat then 0 else s.ch.toNat) →
    ∃ t u t' u', exec (.convDone n) s = .next t ∧ exec .pwmOvf t = .next u ∧
      exec .pwmOvf s = .next t' ∧ exec (.convDone n) t' = .next u' ∧
      (∀ a, u.cmp a = some (t.duty a)) ∧ (∀ a, u'.cmp a = some (s.duty a)) ∧
      SameSequencer u u' ∧ (∀ j, SameChannel j u u') ∧ SameLatch u u' ∧ SameSetting u u' ∧
      u.out = s.out ++ [.sel (i + 1), .trig] ++
        [.setDuty 0 (t.duty 0), .setDuty 1 (t.duty 1), .setDuty 2 (t.duty 2)] ∧
      u'.out = s.out ++ [.setDuty 0 (s.duty 0), .setDuty 1 (s.duty 1), .setDuty 2 (s.duty 2)] ++
        [.sel (i + 1), .trig]

/-! ### The latch -/

/-- 43 R136 to R139: POLL completes in each of the three states of the latch, with the whole next state: every row of the
rule's table, and nothing else changed. The register takes `SETTLE_MS` whole. -/
def Obligations.PollOperation : Prop :=
  (∀ b, (encode (.poll b)).toNat = 0x4000 + (if b then 1 else 0)) ∧
  (∀ c : Config, (BitVec.ofNat c.settleWidth c.settleMs).toNat = c.settleMs) ∧
  ∀ s : State,
    (s.bstate = .idle → exec (.poll false) s = .next s) ∧
    (s.bstate = .idle → s.claw = .closed → exec (.poll true) s = .next
      { s with claw := .opened, duty2 := BitVec.ofNat 16 s.cfg.clawOpenTick, bstate := .pressed }) ∧
    (s.bstate = .idle → s.claw = .opened → exec (.poll true) s = .next
      { s with claw := .closed, duty2 := BitVec.ofNat 16 s.cfg.clawClosedTick, bstate := .pressed }) ∧
    (s.bstate = .pressed → exec (.poll true) s = .next s) ∧
    (s.bstate = .pressed → s.cfg.settleMs ≠ 0 → exec (.poll false) s = .next
      { s with sc := BitVec.ofNat _ s.cfg.settleMs, bstate := .settle }) ∧
    (s.bstate = .pressed → s.cfg.settleMs = 0 → exec (.poll false) s = .next { s with sc := 0, bstate := .idle }) ∧
    (s.bstate = .settle → ∀ b, exec (.poll b) s = .next s)

/-- 43 R142: MS_TICK completes in each of the three states of the latch, with the whole next state; the count, on every value
an `SCW`-bit register holds, goes down by exactly 1. -/
def Obligations.MsTickOperation : Prop :=
  encode .msTick = 0x5000 ∧
  ∀ s : State,
    (s.bstate = .settle → s.sc.toNat ≤ 1 → exec .msTick s = .next { s with sc := 0, bstate := .idle }) ∧
    (s.bstate = .settle → 1 < s.sc.toNat → exec .msTick s = .next { s with sc := BitVec.ofNat _ (s.sc.toNat - 1) } ∧
      (BitVec.ofNat s.cfg.settleWidth (s.sc.toNat - 1)).toNat = s.sc.toNat - 1) ∧
    (s.bstate = .idle → exec .msTick s = .next s) ∧
    (s.bstate = .pressed → exec .msTick s = .next s)

/-- 43 R141: POLL and MS_TICK on the pattern `bstate = 3` are refused, and no operation writes that pattern. -/
def Obligations.InvalidLatchPatternIsRefused : Prop :=
  (∀ s : State, s.bstate = .invalid →
    (∀ b, exec (.poll b) s = .refused .bstateInvalid) ∧ exec .msTick s = .refused .bstateInvalid) ∧
  (∀ (i : Instr) (s t : State), exec i s = .next t → t.bstate = .invalid → s.bstate = .invalid)

/-- 43 R140: while every POLL carries 1, a latch in `PRESSED` stays there with its claw state and claw tick, however many
events pass, RESET excepted; and the two interrupt sources go on being served. -/
def Obligations.StuckInputStaysPressed : Prop :=
  ∀ (is : List Instr) (s t : State), s.bstate = .pressed → .poll false ∉ is → .reset ∉ is → execAll is s = .next t →
    t.bstate = .pressed ∧ t.claw = s.claw ∧ t.duty clawAxis = s.duty clawAxis ∧
    (∃ u, exec .pwmOvf t = .next u) ∧
    (t.busy = true → ∀ n, n ≤ t.cfg.sampleMax → ∃ u, exec (.convDone n) t = .next u)

/-- The spec's inference 43 R144 (1) (`[derived: ...]`): RESET apart, `claw` flips exactly at a POLL 1 served in `IDLE`. -/
def Obligations.ClawFlipsExactlyAtAssertedPollInIdle : Prop :=
  ∀ (i : Instr) (s t : State), i ≠ .reset → exec i s = .next t →
    (t.claw ≠ s.claw ↔ i = .poll true ∧ s.bstate = .idle)

/-- The spec's inference 43 R144 (2) (`[derived: ...]`): an unbroken run of asserted polls that starts in `IDLE`, of any
length and with any other events between them, flips the claw exactly once. -/
def Obligations.OneTogglePerPress : Prop :=
  ∀ (is : List Instr) (s t : State), s.bstate = .idle → .poll true ∈ is → .poll false ∉ is → .reset ∉ is →
    execAll is s = .next t → t.claw = flipClaw s.claw ∧ t.bstate = .pressed ∧ t.duty clawAxis = clawTick s.cfg t.claw

/-- The spec's inference 43 R144 (4) and program P7 (`[derived: ...]`): a single released reading during a press that
outlasts the settle interval flips the claw a second time, from any idle latch. The first POLL 1 flips it; through the release
and every millisecond of the interval but the last, each with an asserted poll, it stays flipped and the latch in `SETTLE`; the
last MS_TICK leads to `IDLE`, still flipped; and the POLL 1 of that millisecond, which ends the hold, flips it back. -/
def Obligations.BounceOnPressFlipsTwice : Prop :=
  ∀ s : State, s.bstate = .idle → 1 ≤ s.cfg.settleMs →
    (∃ p, execAll Pseudo.press.expand s = .next p ∧
      p.claw = flipClaw s.claw ∧ p.bstate = .pressed ∧ p.duty clawAxis = clawTick s.cfg (flipClaw s.claw)) ∧
    (∀ k, k < s.cfg.settleMs →
      ∃ m, execAll (Pseudo.press.expand ++ Pseudo.release.expand ++ (Pseudo.hold k).expand) s = .next m ∧
        m.claw = flipClaw s.claw ∧ m.bstate = .settle ∧ m.settleCount + k = s.cfg.settleMs ∧
        m.duty clawAxis = clawTick s.cfg (flipClaw s.claw)) ∧
    (∃ u t, execAll (Pseudo.press.expand ++ Pseudo.release.expand ++ (Pseudo.hold (s.cfg.settleMs - 1)).expand ++ [.msTick]) s =
        .next u ∧
      u.claw = flipClaw s.claw ∧ u.bstate = .idle ∧ exec (.poll true) u = .next t ∧
      execAll (Pseudo.press.expand ++ Pseudo.release.expand ++ (Pseudo.hold s.cfg.settleMs).expand) s = .next t ∧
      t.claw = flipClaw u.claw ∧ t.claw = s.claw ∧ t.bstate = .pressed ∧ t.duty clawAxis = clawTick s.cfg s.claw)

/-- 43 R143 and R138: after the POLL that saw the release, whatever events follow short of RESET, the latch stays in `SETTLE`,
its claw unchanged, until the `SETTLE_MS`-th MS_TICK, which takes it to `IDLE`. -/
def Obligations.SettleIntervalLength : Prop :=
  ∀ s : State, s.bstate = .pressed → 1 ≤ s.cfg.settleMs →
    ∃ r, exec (.poll false) s = .next r ∧
      ∀ (is : List Instr) (t : State), .reset ∉ is → execAll is r = .next t →
        (ticks is < s.cfg.settleMs →
          t.bstate = .settle ∧ t.settleCount + ticks is = s.cfg.settleMs ∧ t.claw = s.claw ∧ t.duty clawAxis = s.duty clawAxis) ∧
        (ticks is + 1 = s.cfg.settleMs → ∃ u, exec .msTick t = .next u ∧ u.bstate = .idle ∧ u.settleCount = 0 ∧ u.claw = s.claw)

/-! ### The whole machine -/

/-- The spec's inferences 10_state R34 lines 1 to 7 (`[derived: ...]`), at power-on: they hold for every well-formed
configuration, and so at `State.reset`. -/
def Obligations.InvariantsHoldAtReset : Prop :=
  (∀ c : Config, c.wf = true → Inv (State.powerOn c)) ∧ Inv State.reset

/-- The spec's inferences 10_state R34 lines 1 to 7 (`[derived: ...]`): every step keeps them, from every state that meets
them. -/
def Obligations.EveryStepKeepsTheInvariants : Prop :=
  ∀ s t : State, Inv s → step s = .next t → Inv t

/-- The environment contract of 60_exceptions R173: in a state that meets the invariants, an event is served exactly when it
is no CONV_DONE, or a CONV_DONE with a conversion outstanding and a sample in range; nothing else is required. A run is served
to its end from power-on exactly when each of its events is, in the state it meets. -/
def Obligations.ContractIsExactlyWhatIsServed : Prop :=
  (∀ (i : Instr) (s : State), Inv s →
    ((∃ t, exec i s = .next t) ↔ ∀ n, i = .convDone n → s.busy = true ∧ n ≤ s.cfg.sampleMax)) ∧
  (∀ (is : List Instr) (c : Config), c.wf = true →
    ((∃ t, execAll is (State.powerOn c) = .next t) ↔
      ∀ before i after m, is = before ++ i :: after → execAll before (State.powerOn c) = .next m →
        ∀ n, i = .convDone n → m.busy = true ∧ n ≤ c.sampleMax))

/-- 20_memory R63: after reset every register has exactly one writing unit, and the only cross-unit reads are the commit's
reads of the duty-cycle values. In two states that agree on the sequencer's registers the sequencer ends alike, whatever the
positions and the rest hold; a channel ends alike where it and the sequencer's choice of channel agree, whatever the other
channel holds; the latch where its own registers agree; the compare registers where they and the duty-cycle values agree. -/
def Obligations.SingleWriterAndOwnReads : Prop :=
  (∀ (i : Instr) (s t : State), i ≠ .reset → exec i s = .next t →
    (¬ SameSequencer s t → i = .start ∨ ∃ n, i = .convDone n) ∧
    (∀ j, ¬ SameChannel j s t → (∃ n, i = .convDone n) ∧ j.val = (if 2 ≤ s.ch.toNat then 0 else s.ch.toNat)) ∧
    (¬ SameLatch s t → (∃ b, i = .poll b) ∨ i = .msTick) ∧
    (¬ SameCompare s t → i = .pwmOvf)) ∧
  (∀ (i : Instr) (s s' t t' : State), s'.cfg = s.cfg → exec i s = .next t → exec i s' = .next t' →
    (SameSequencer s s' → SameSequencer t t') ∧
    (∀ j, SameSequencer s s' → SameChannel j s s' → SameChannel j t t') ∧
    (SameLatch s s' → SameLatch t t') ∧
    (SameCompare s s' → (∀ a, s'.duty a = s.duty a) → SameCompare t t'))

/-- 00_scope R9: no operation writes the configuration; nor does any run touch the trace or its index, which only the step
moves (log entry 7). -/
def Obligations.ConfigurationIsNeverWritten : Prop :=
  ∀ (is : List Instr) (s t : State), execAll is s = .next t → SameSetting s t

/-- 10_state R30: the log is append-only and read by no operation: with another log in front, every operation answers alike
and appends the same actions. -/
def Obligations.LogIsAppendOnlyAndUnread : Prop :=
  ∀ (i : Instr) (s : State) (log : List Action),
    exec i { s with out := log } =
      match exec i { s with out := [] } with
      | .next t => .next { t with out := log ++ t.out }
      | .fault f => .fault f
      | .refused r => .refused r

/-- 41 R111 and the width `SCW` of 00_scope R10: the register widths are the least that hold `PMAXQ` and `SETTLE_MS`, and
REF's are 19 and 8 bits. That no value written is cut to its width is this model's inference (log entry 4): the positions
INTEGRATE and reset write, and the settle counts POLL and MS_TICK write, are read back as they are; so every content is below
its power of two. -/
def Obligations.RegisterWidthsSuffice : Prop :=
  (∀ c : Config, c.pmaxq < 2 ^ c.posWidth ∧ (∀ w, c.pmaxq < 2 ^ w → c.posWidth ≤ w) ∧
    c.settleMs < 2 ^ c.settleWidth ∧ (∀ w, c.settleMs < 2 ^ w → c.settleWidth ≤ w)) ∧
  Config.ref.posWidth = 19 ∧ Config.ref.settleWidth = 8 ∧
  (∀ s : State, (∀ i, s.pos i < 2 ^ s.cfg.posWidth) ∧ s.settleCount < 2 ^ s.cfg.settleWidth) ∧
  (∀ (s : State) (i : Channel) (posq n : Nat),
    (s.setPos i (integrateQ s.cfg posq n)).pos i = integrateQ s.cfg posq n) ∧
  (∀ c : Config, c.wf = true → ∀ i, (State.powerOn c).pos i = c.posInitQ) ∧
  (∀ s : State, (s.setSc s.cfg.settleMs).settleCount = s.cfg.settleMs ∧
    (s.setSc (s.settleCount - 1)).settleCount = s.settleCount - 1)
end

