-- ==== Sys2Proof/Laws/Arith.lean ====
section
/-! SUPPORT. What the clamp, the derived constants, INTEGRATE and MAP can answer. -/

namespace Sys2Proof.Machine

/-! ### The clamp -/

theorem le_clamp {α : Type} [LinearOrder α] {v lo hi : α} (h : lo ≤ hi) : lo ≤ clamp v lo hi := by
  unfold clamp; split_ifs <;> order

theorem clamp_le {α : Type} [LinearOrder α] {v lo hi : α} (h : lo ≤ hi) : clamp v lo hi ≤ hi := by
  unfold clamp; split_ifs <;> order

theorem clamp_of_mem {α : Type} [LinearOrder α] {v lo hi : α} (h₁ : lo ≤ v) (h₂ : v ≤ hi) : clamp v lo hi = v := by
  unfold clamp; split_ifs <;> order

theorem clamp_mono {α : Type} [LinearOrder α] {v w lo hi : α} (h : v ≤ w) (hb : lo ≤ hi) :
    clamp v lo hi ≤ clamp w lo hi := by
  unfold clamp; split_ifs <;> order

theorem clamp_of_le {α : Type} [LinearOrder α] {v lo hi : α} (h : hi ≤ v) (hb : lo ≤ hi) : clamp v lo hi = hi := by
  unfold clamp; split_ifs <;> order

theorem clamp_of_ge {α : Type} [LinearOrder α] {v lo hi : α} (h : v ≤ lo) (hb : lo ≤ hi) : clamp v lo hi = lo := by
  unfold clamp; split_ifs <;> order

/-! ### The least width -/

theorem lt_two_pow_leastWidth (n : Nat) : n < 2 ^ leastWidth n := by
  unfold leastWidth
  split_ifs with h
  · subst h; decide
  · exact Nat.lt_log2_self

theorem leastWidth_le {n w : Nat} (h : n < 2 ^ w) : leastWidth n ≤ w := by
  unfold leastWidth
  split_ifs with h0
  · exact Nat.zero_le w
  · exact (Nat.log2_lt h0).2 h

end Sys2Proof.Machine

namespace Sys2Proof

/-! ### A well-formed configuration, line by line -/

/-- The lines of 00_scope R11 that are not fixed by a type, as propositions. -/
theorem Config.wf_lines {c : Config} (h : c.wf = true) :
    (1 ≤ c.sw ∧ c.sw ≤ 12) ∧ (0 < c.tLow ∧ c.tLow ≤ c.tHigh ∧ c.tHigh < c.sampleMax) ∧
    (1 ≤ c.rateNum ∧ 1 ≤ c.rateDen) ∧ 1 ≤ c.positionMax ∧
    (0 < c.posInitDen ∧ c.posInitNum ≤ c.positionMax * c.posInitDen ∧ c.posInitNum * c.scale % c.posInitDen = 0) ∧
    (∀ a, (c.bounds a).min ≤ (c.bounds a).max ∧ (c.bounds a).max < 2 ^ 16) ∧
    ((c.bounds clawAxis).min ≤ c.clawOpenTick ∧ c.clawOpenTick ≤ (c.bounds clawAxis).max) ∧
    ((c.bounds clawAxis).min ≤ c.clawClosedTick ∧ c.clawClosedTick ≤ (c.bounds clawAxis).max) := by
  simp only [Config.wf, Config.line2, Config.line3, Config.line4, Config.line5, Config.line6, Config.line7, Config.line8,
    TickBounds.ok, Bool.and_eq_true, decide_eq_true_eq] at h
  simp only [tickWidth] at h
  refine ⟨by tauto, by tauto, by tauto, by tauto, by tauto, fun a => ?_, ?_, ?_⟩
  · fin_cases a <;> simp only [Config.bounds] <;> tauto
  · simp only [clawAxis, Config.bounds]; tauto
  · simp only [clawAxis, Config.bounds]; tauto

theorem Config.upSpan_pos {c : Config} (h : c.wf = true) : 0 < c.upSpan := by
  have := (Config.wf_lines h).2.1; unfold Config.upSpan; omega

theorem Config.dnSpan_pos {c : Config} (h : c.wf = true) : 0 < c.dnSpan := (Config.wf_lines h).2.1.1

theorem Config.scale_pos {c : Config} (h : c.wf = true) : 0 < c.scale :=
  Nat.mul_pos (Config.wf_lines h).2.2.1.2 (Nat.lcm_pos (Config.upSpan_pos h) (Config.dnSpan_pos h))

theorem Config.pmaxq_pos {c : Config} (h : c.wf = true) : 0 < c.pmaxq :=
  Nat.mul_pos (Config.wf_lines h).2.2.2.1 (Config.scale_pos h)

theorem Config.sampleMax_le {c : Config} (h : c.wf = true) : c.sampleMax ≤ 4095 := by
  have : 2 ^ c.sw ≤ 2 ^ 12 := Nat.pow_le_pow_right (by decide) (Config.wf_lines h).1.2
  unfold Config.sampleMax; omega

end Sys2Proof

namespace Sys2Proof.Machine

/-! ### INTEGRATE -/

/-- The new position register is the clamped exact sum, as an integer. -/
theorem integrateQ_cast (c : Config) (p s : Nat) : (integrateQ c p s : Int) = clamp ((p : Int) + deltaQ c s) 0 c.pmaxq :=
  Int.toNat_of_nonneg (le_clamp (Int.natCast_nonneg _))

/-- INTEGRATE always lands in range, whatever it starts from (41 R105). -/
theorem integrateQ_le (c : Config) (p s : Nat) : integrateQ c p s ≤ c.pmaxq := by
  have h : (integrateQ c p s : Int) ≤ c.pmaxq := by
    rw [integrateQ_cast]; exact clamp_le (Int.natCast_nonneg _)
  exact_mod_cast h

/-- What INTEGRATE answers fits the position register, under any configuration (41 R111). -/
theorem integrateQ_lt (c : Config) (p s : Nat) : integrateQ c p s < 2 ^ c.posWidth :=
  lt_of_le_of_lt (integrateQ_le c p s) (lt_two_pow_leastWidth _)

/-- `POS_INIT` is in range (00_scope R11 line 6). -/
theorem Config.posInitQ_le {c : Config} (h : c.wf = true) : c.posInitQ ≤ c.pmaxq := by
  obtain ⟨hd, hle, -⟩ := (Config.wf_lines h).2.2.2.2.1
  refine Nat.div_le_of_le_mul ?_
  calc c.posInitNum * c.scale ≤ c.positionMax * c.posInitDen * c.scale := Nat.mul_le_mul_right _ hle
    _ = c.posInitDen * c.pmaxq := by unfold Config.pmaxq; ring

/-- The reset value fits the position register (41 R111). -/
theorem Config.posInitQ_lt {c : Config} (h : c.wf = true) : c.posInitQ < 2 ^ c.posWidth :=
  lt_of_le_of_lt (Config.posInitQ_le h) (lt_two_pow_leastWidth _)

/-- `SETTLE_MS` fits the settle counter (00_scope R10 `SCW`). -/
theorem Config.settleMs_lt (c : Config) : c.settleMs < 2 ^ c.settleWidth := lt_two_pow_leastWidth _

/-! ### MAP and CLAWTICK -/

/-- MAP answers a tick within the axis's bounds, whatever the position (42 R122). -/
theorem mapTick_mem {c : Config} (h : c.wf = true) (i : Channel) (p : Nat) :
    (c.bounds (axisOf i)).min ≤ mapTick c i p ∧ mapTick c i p ≤ (c.bounds (axisOf i)).max :=
  have hb := ((Config.wf_lines h).2.2.2.2.2.1 (axisOf i)).1
  ⟨le_clamp hb, clamp_le hb⟩

/-- Writing a tick to a register loses nothing: the bounds are below `2^TW` (00_scope R11 line 7). -/
theorem mapDuty_toNat {c : Config} (h : c.wf = true) (i : Channel) (p : Nat) : (mapDuty c i p).toNat = mapTick c i p := by
  have h1 := (mapTick_mem h i p).2
  have h2 := ((Config.wf_lines h).2.2.2.2.2.1 (axisOf i)).2
  simp only [mapDuty, BitVec.toNat_ofNat]; omega

theorem clawTickNat_mem {c : Config} (h : c.wf = true) (k : Claw) :
    (c.bounds clawAxis).min ≤ clawTickNat c k ∧ clawTickNat c k ≤ (c.bounds clawAxis).max := by
  cases k
  · exact (Config.wf_lines h).2.2.2.2.2.2.2
  · exact (Config.wf_lines h).2.2.2.2.2.2.1

theorem clawTick_toNat {c : Config} (h : c.wf = true) (k : Claw) : (clawTick c k).toNat = clawTickNat c k := by
  have h1 := (clawTickNat_mem h k).2
  have h2 := ((Config.wf_lines h).2.2.2.2.2.1 clawAxis).2
  simp only [clawTick, BitVec.toNat_ofNat]; omega

end Sys2Proof.Machine
end

