-- ==== Sys2Proof/Laws/State.lean ====
section
/-! SUPPORT. What each update of State changes, field by field, true by rfl, and how the indexed reads see each update. -/

namespace Sys2Proof.Machine

/-! ### setBusy -/

@[simp] theorem State.setBusy_cfg (s : State) (b : Bool) : (s.setBusy b).cfg = s.cfg := rfl
@[simp] theorem State.setBusy_ch (s : State) (b : Bool) : (s.setBusy b).ch = s.ch := rfl
@[simp] theorem State.setBusy_busy (s : State) (b : Bool) : (s.setBusy b).busy = b := rfl
@[simp] theorem State.setBusy_duty0 (s : State) (b : Bool) : (s.setBusy b).duty0 = s.duty0 := rfl
@[simp] theorem State.setBusy_duty1 (s : State) (b : Bool) : (s.setBusy b).duty1 = s.duty1 := rfl
@[simp] theorem State.setBusy_duty2 (s : State) (b : Bool) : (s.setBusy b).duty2 = s.duty2 := rfl
@[simp] theorem State.setBusy_cmp0 (s : State) (b : Bool) : (s.setBusy b).cmp0 = s.cmp0 := rfl
@[simp] theorem State.setBusy_cmp1 (s : State) (b : Bool) : (s.setBusy b).cmp1 = s.cmp1 := rfl
@[simp] theorem State.setBusy_cmp2 (s : State) (b : Bool) : (s.setBusy b).cmp2 = s.cmp2 := rfl
@[simp] theorem State.setBusy_claw (s : State) (b : Bool) : (s.setBusy b).claw = s.claw := rfl
@[simp] theorem State.setBusy_bstate (s : State) (b : Bool) : (s.setBusy b).bstate = s.bstate := rfl
@[simp] theorem State.setBusy_settleCount (s : State) (b : Bool) : (s.setBusy b).settleCount = s.settleCount := rfl
@[simp] theorem State.setBusy_out (s : State) (b : Bool) : (s.setBusy b).out = s.out := rfl
@[simp] theorem State.setBusy_trace (s : State) (b : Bool) : (s.setBusy b).trace = s.trace := rfl
@[simp] theorem State.setBusy_idx (s : State) (b : Bool) : (s.setBusy b).idx = s.idx := rfl

/-! ### setClaw -/

@[simp] theorem State.setClaw_cfg (s : State) (k : Claw) : (s.setClaw k).cfg = s.cfg := rfl
@[simp] theorem State.setClaw_ch (s : State) (k : Claw) : (s.setClaw k).ch = s.ch := rfl
@[simp] theorem State.setClaw_busy (s : State) (k : Claw) : (s.setClaw k).busy = s.busy := rfl
@[simp] theorem State.setClaw_duty0 (s : State) (k : Claw) : (s.setClaw k).duty0 = s.duty0 := rfl
@[simp] theorem State.setClaw_duty1 (s : State) (k : Claw) : (s.setClaw k).duty1 = s.duty1 := rfl
@[simp] theorem State.setClaw_duty2 (s : State) (k : Claw) : (s.setClaw k).duty2 = s.duty2 := rfl
@[simp] theorem State.setClaw_cmp0 (s : State) (k : Claw) : (s.setClaw k).cmp0 = s.cmp0 := rfl
@[simp] theorem State.setClaw_cmp1 (s : State) (k : Claw) : (s.setClaw k).cmp1 = s.cmp1 := rfl
@[simp] theorem State.setClaw_cmp2 (s : State) (k : Claw) : (s.setClaw k).cmp2 = s.cmp2 := rfl
@[simp] theorem State.setClaw_claw (s : State) (k : Claw) : (s.setClaw k).claw = k := rfl
@[simp] theorem State.setClaw_bstate (s : State) (k : Claw) : (s.setClaw k).bstate = s.bstate := rfl
@[simp] theorem State.setClaw_settleCount (s : State) (k : Claw) : (s.setClaw k).settleCount = s.settleCount := rfl
@[simp] theorem State.setClaw_out (s : State) (k : Claw) : (s.setClaw k).out = s.out := rfl
@[simp] theorem State.setClaw_trace (s : State) (k : Claw) : (s.setClaw k).trace = s.trace := rfl
@[simp] theorem State.setClaw_idx (s : State) (k : Claw) : (s.setClaw k).idx = s.idx := rfl

/-! ### setPos -/

@[simp] theorem State.setPos_cfg (s : State) (i : Channel) (p : Nat) : (s.setPos i p).cfg = s.cfg := rfl
@[simp] theorem State.setPos_ch (s : State) (i : Channel) (p : Nat) : (s.setPos i p).ch = s.ch := rfl
@[simp] theorem State.setPos_busy (s : State) (i : Channel) (p : Nat) : (s.setPos i p).busy = s.busy := rfl
@[simp] theorem State.setPos_duty0 (s : State) (i : Channel) (p : Nat) : (s.setPos i p).duty0 = s.duty0 := rfl
@[simp] theorem State.setPos_duty1 (s : State) (i : Channel) (p : Nat) : (s.setPos i p).duty1 = s.duty1 := rfl
@[simp] theorem State.setPos_duty2 (s : State) (i : Channel) (p : Nat) : (s.setPos i p).duty2 = s.duty2 := rfl
@[simp] theorem State.setPos_cmp0 (s : State) (i : Channel) (p : Nat) : (s.setPos i p).cmp0 = s.cmp0 := rfl
@[simp] theorem State.setPos_cmp1 (s : State) (i : Channel) (p : Nat) : (s.setPos i p).cmp1 = s.cmp1 := rfl
@[simp] theorem State.setPos_cmp2 (s : State) (i : Channel) (p : Nat) : (s.setPos i p).cmp2 = s.cmp2 := rfl
@[simp] theorem State.setPos_claw (s : State) (i : Channel) (p : Nat) : (s.setPos i p).claw = s.claw := rfl
@[simp] theorem State.setPos_bstate (s : State) (i : Channel) (p : Nat) : (s.setPos i p).bstate = s.bstate := rfl
@[simp] theorem State.setPos_settleCount (s : State) (i : Channel) (p : Nat) : (s.setPos i p).settleCount = s.settleCount := rfl
@[simp] theorem State.setPos_out (s : State) (i : Channel) (p : Nat) : (s.setPos i p).out = s.out := rfl
@[simp] theorem State.setPos_trace (s : State) (i : Channel) (p : Nat) : (s.setPos i p).trace = s.trace := rfl
@[simp] theorem State.setPos_idx (s : State) (i : Channel) (p : Nat) : (s.setPos i p).idx = s.idx := rfl

/-! ### setDuty -/

@[simp] theorem State.setDuty_cfg (s : State) (a : Axis) (v : Tick) : (s.setDuty a v).cfg = s.cfg := rfl
@[simp] theorem State.setDuty_ch (s : State) (a : Axis) (v : Tick) : (s.setDuty a v).ch = s.ch := rfl
@[simp] theorem State.setDuty_busy (s : State) (a : Axis) (v : Tick) : (s.setDuty a v).busy = s.busy := rfl
@[simp] theorem State.setDuty_duty0 (s : State) (a : Axis) (v : Tick) : (s.setDuty a v).duty0 = if a = 0 then v else s.duty0 := rfl
@[simp] theorem State.setDuty_duty1 (s : State) (a : Axis) (v : Tick) : (s.setDuty a v).duty1 = if a = 1 then v else s.duty1 := rfl
@[simp] theorem State.setDuty_duty2 (s : State) (a : Axis) (v : Tick) : (s.setDuty a v).duty2 = if a = 2 then v else s.duty2 := rfl
@[simp] theorem State.setDuty_cmp0 (s : State) (a : Axis) (v : Tick) : (s.setDuty a v).cmp0 = s.cmp0 := rfl
@[simp] theorem State.setDuty_cmp1 (s : State) (a : Axis) (v : Tick) : (s.setDuty a v).cmp1 = s.cmp1 := rfl
@[simp] theorem State.setDuty_cmp2 (s : State) (a : Axis) (v : Tick) : (s.setDuty a v).cmp2 = s.cmp2 := rfl
@[simp] theorem State.setDuty_claw (s : State) (a : Axis) (v : Tick) : (s.setDuty a v).claw = s.claw := rfl
@[simp] theorem State.setDuty_bstate (s : State) (a : Axis) (v : Tick) : (s.setDuty a v).bstate = s.bstate := rfl
@[simp] theorem State.setDuty_settleCount (s : State) (a : Axis) (v : Tick) : (s.setDuty a v).settleCount = s.settleCount := rfl
@[simp] theorem State.setDuty_out (s : State) (a : Axis) (v : Tick) : (s.setDuty a v).out = s.out := rfl
@[simp] theorem State.setDuty_trace (s : State) (a : Axis) (v : Tick) : (s.setDuty a v).trace = s.trace := rfl
@[simp] theorem State.setDuty_idx (s : State) (a : Axis) (v : Tick) : (s.setDuty a v).idx = s.idx := rfl

/-! ### setCmp -/

@[simp] theorem State.setCmp_cfg (s : State) (a : Axis) (v : Option Tick) : (s.setCmp a v).cfg = s.cfg := rfl
@[simp] theorem State.setCmp_ch (s : State) (a : Axis) (v : Option Tick) : (s.setCmp a v).ch = s.ch := rfl
@[simp] theorem State.setCmp_busy (s : State) (a : Axis) (v : Option Tick) : (s.setCmp a v).busy = s.busy := rfl
@[simp] theorem State.setCmp_duty0 (s : State) (a : Axis) (v : Option Tick) : (s.setCmp a v).duty0 = s.duty0 := rfl
@[simp] theorem State.setCmp_duty1 (s : State) (a : Axis) (v : Option Tick) : (s.setCmp a v).duty1 = s.duty1 := rfl
@[simp] theorem State.setCmp_duty2 (s : State) (a : Axis) (v : Option Tick) : (s.setCmp a v).duty2 = s.duty2 := rfl
@[simp] theorem State.setCmp_cmp0 (s : State) (a : Axis) (v : Option Tick) : (s.setCmp a v).cmp0 = if a = 0 then v else s.cmp0 := rfl
@[simp] theorem State.setCmp_cmp1 (s : State) (a : Axis) (v : Option Tick) : (s.setCmp a v).cmp1 = if a = 1 then v else s.cmp1 := rfl
@[simp] theorem State.setCmp_cmp2 (s : State) (a : Axis) (v : Option Tick) : (s.setCmp a v).cmp2 = if a = 2 then v else s.cmp2 := rfl
@[simp] theorem State.setCmp_claw (s : State) (a : Axis) (v : Option Tick) : (s.setCmp a v).claw = s.claw := rfl
@[simp] theorem State.setCmp_bstate (s : State) (a : Axis) (v : Option Tick) : (s.setCmp a v).bstate = s.bstate := rfl
@[simp] theorem State.setCmp_settleCount (s : State) (a : Axis) (v : Option Tick) : (s.setCmp a v).settleCount = s.settleCount := rfl
@[simp] theorem State.setCmp_out (s : State) (a : Axis) (v : Option Tick) : (s.setCmp a v).out = s.out := rfl
@[simp] theorem State.setCmp_trace (s : State) (a : Axis) (v : Option Tick) : (s.setCmp a v).trace = s.trace := rfl
@[simp] theorem State.setCmp_idx (s : State) (a : Axis) (v : Option Tick) : (s.setCmp a v).idx = s.idx := rfl

/-! ### setCh -/

@[simp] theorem State.setCh_cfg (s : State) (i : Channel) : (s.setCh i).cfg = s.cfg := rfl
@[simp] theorem State.setCh_ch (s : State) (i : Channel) : (s.setCh i).ch = BitVec.ofNat 2 i.val := rfl
@[simp] theorem State.setCh_busy (s : State) (i : Channel) : (s.setCh i).busy = s.busy := rfl
@[simp] theorem State.setCh_duty0 (s : State) (i : Channel) : (s.setCh i).duty0 = s.duty0 := rfl
@[simp] theorem State.setCh_duty1 (s : State) (i : Channel) : (s.setCh i).duty1 = s.duty1 := rfl
@[simp] theorem State.setCh_duty2 (s : State) (i : Channel) : (s.setCh i).duty2 = s.duty2 := rfl
@[simp] theorem State.setCh_cmp0 (s : State) (i : Channel) : (s.setCh i).cmp0 = s.cmp0 := rfl
@[simp] theorem State.setCh_cmp1 (s : State) (i : Channel) : (s.setCh i).cmp1 = s.cmp1 := rfl
@[simp] theorem State.setCh_cmp2 (s : State) (i : Channel) : (s.setCh i).cmp2 = s.cmp2 := rfl
@[simp] theorem State.setCh_claw (s : State) (i : Channel) : (s.setCh i).claw = s.claw := rfl
@[simp] theorem State.setCh_bstate (s : State) (i : Channel) : (s.setCh i).bstate = s.bstate := rfl
@[simp] theorem State.setCh_settleCount (s : State) (i : Channel) : (s.setCh i).settleCount = s.settleCount := rfl
@[simp] theorem State.setCh_out (s : State) (i : Channel) : (s.setCh i).out = s.out := rfl
@[simp] theorem State.setCh_trace (s : State) (i : Channel) : (s.setCh i).trace = s.trace := rfl
@[simp] theorem State.setCh_idx (s : State) (i : Channel) : (s.setCh i).idx = s.idx := rfl

/-! ### setBState -/

@[simp] theorem State.setBState_cfg (s : State) (b : BState) : (s.setBState b).cfg = s.cfg := rfl
@[simp] theorem State.setBState_ch (s : State) (b : BState) : (s.setBState b).ch = s.ch := rfl
@[simp] theorem State.setBState_busy (s : State) (b : BState) : (s.setBState b).busy = s.busy := rfl
@[simp] theorem State.setBState_duty0 (s : State) (b : BState) : (s.setBState b).duty0 = s.duty0 := rfl
@[simp] theorem State.setBState_duty1 (s : State) (b : BState) : (s.setBState b).duty1 = s.duty1 := rfl
@[simp] theorem State.setBState_duty2 (s : State) (b : BState) : (s.setBState b).duty2 = s.duty2 := rfl
@[simp] theorem State.setBState_cmp0 (s : State) (b : BState) : (s.setBState b).cmp0 = s.cmp0 := rfl
@[simp] theorem State.setBState_cmp1 (s : State) (b : BState) : (s.setBState b).cmp1 = s.cmp1 := rfl
@[simp] theorem State.setBState_cmp2 (s : State) (b : BState) : (s.setBState b).cmp2 = s.cmp2 := rfl
@[simp] theorem State.setBState_claw (s : State) (b : BState) : (s.setBState b).claw = s.claw := rfl
@[simp] theorem State.setBState_bstate (s : State) (b : BState) : (s.setBState b).bstate = b := rfl
@[simp] theorem State.setBState_settleCount (s : State) (b : BState) : (s.setBState b).settleCount = s.settleCount := rfl
@[simp] theorem State.setBState_out (s : State) (b : BState) : (s.setBState b).out = s.out := rfl
@[simp] theorem State.setBState_trace (s : State) (b : BState) : (s.setBState b).trace = s.trace := rfl
@[simp] theorem State.setBState_idx (s : State) (b : BState) : (s.setBState b).idx = s.idx := rfl

/-! ### setSc -/

@[simp] theorem State.setSc_cfg (s : State) (n : Nat) : (s.setSc n).cfg = s.cfg := rfl
@[simp] theorem State.setSc_ch (s : State) (n : Nat) : (s.setSc n).ch = s.ch := rfl
@[simp] theorem State.setSc_busy (s : State) (n : Nat) : (s.setSc n).busy = s.busy := rfl
@[simp] theorem State.setSc_duty0 (s : State) (n : Nat) : (s.setSc n).duty0 = s.duty0 := rfl
@[simp] theorem State.setSc_duty1 (s : State) (n : Nat) : (s.setSc n).duty1 = s.duty1 := rfl
@[simp] theorem State.setSc_duty2 (s : State) (n : Nat) : (s.setSc n).duty2 = s.duty2 := rfl
@[simp] theorem State.setSc_cmp0 (s : State) (n : Nat) : (s.setSc n).cmp0 = s.cmp0 := rfl
@[simp] theorem State.setSc_cmp1 (s : State) (n : Nat) : (s.setSc n).cmp1 = s.cmp1 := rfl
@[simp] theorem State.setSc_cmp2 (s : State) (n : Nat) : (s.setSc n).cmp2 = s.cmp2 := rfl
@[simp] theorem State.setSc_claw (s : State) (n : Nat) : (s.setSc n).claw = s.claw := rfl
@[simp] theorem State.setSc_bstate (s : State) (n : Nat) : (s.setSc n).bstate = s.bstate := rfl
@[simp] theorem State.setSc_settleCount (s : State) (n : Nat) : (s.setSc n).settleCount = n % 2 ^ s.cfg.settleWidth :=
  BitVec.toNat_ofNat n _
@[simp] theorem State.setSc_out (s : State) (n : Nat) : (s.setSc n).out = s.out := rfl
@[simp] theorem State.setSc_trace (s : State) (n : Nat) : (s.setSc n).trace = s.trace := rfl
@[simp] theorem State.setSc_idx (s : State) (n : Nat) : (s.setSc n).idx = s.idx := rfl

/-! ### emit -/

@[simp] theorem State.emit_cfg (s : State) (a : Action) : (s.emit a).cfg = s.cfg := rfl
@[simp] theorem State.emit_ch (s : State) (a : Action) : (s.emit a).ch = s.ch := rfl
@[simp] theorem State.emit_busy (s : State) (a : Action) : (s.emit a).busy = s.busy := rfl
@[simp] theorem State.emit_duty0 (s : State) (a : Action) : (s.emit a).duty0 = s.duty0 := rfl
@[simp] theorem State.emit_duty1 (s : State) (a : Action) : (s.emit a).duty1 = s.duty1 := rfl
@[simp] theorem State.emit_duty2 (s : State) (a : Action) : (s.emit a).duty2 = s.duty2 := rfl
@[simp] theorem State.emit_cmp0 (s : State) (a : Action) : (s.emit a).cmp0 = s.cmp0 := rfl
@[simp] theorem State.emit_cmp1 (s : State) (a : Action) : (s.emit a).cmp1 = s.cmp1 := rfl
@[simp] theorem State.emit_cmp2 (s : State) (a : Action) : (s.emit a).cmp2 = s.cmp2 := rfl
@[simp] theorem State.emit_claw (s : State) (a : Action) : (s.emit a).claw = s.claw := rfl
@[simp] theorem State.emit_bstate (s : State) (a : Action) : (s.emit a).bstate = s.bstate := rfl
@[simp] theorem State.emit_settleCount (s : State) (a : Action) : (s.emit a).settleCount = s.settleCount := rfl
@[simp] theorem State.emit_out (s : State) (a : Action) : (s.emit a).out = s.out ++ [a] := rfl
@[simp] theorem State.emit_trace (s : State) (a : Action) : (s.emit a).trace = s.trace := rfl
@[simp] theorem State.emit_idx (s : State) (a : Action) : (s.emit a).idx = s.idx := rfl

/-! ### advance -/

@[simp] theorem State.advance_cfg (s : State) : s.advance.cfg = s.cfg := rfl
@[simp] theorem State.advance_ch (s : State) : s.advance.ch = s.ch := rfl
@[simp] theorem State.advance_busy (s : State) : s.advance.busy = s.busy := rfl
@[simp] theorem State.advance_duty0 (s : State) : s.advance.duty0 = s.duty0 := rfl
@[simp] theorem State.advance_duty1 (s : State) : s.advance.duty1 = s.duty1 := rfl
@[simp] theorem State.advance_duty2 (s : State) : s.advance.duty2 = s.duty2 := rfl
@[simp] theorem State.advance_cmp0 (s : State) : s.advance.cmp0 = s.cmp0 := rfl
@[simp] theorem State.advance_cmp1 (s : State) : s.advance.cmp1 = s.cmp1 := rfl
@[simp] theorem State.advance_cmp2 (s : State) : s.advance.cmp2 = s.cmp2 := rfl
@[simp] theorem State.advance_claw (s : State) : s.advance.claw = s.claw := rfl
@[simp] theorem State.advance_bstate (s : State) : s.advance.bstate = s.bstate := rfl
@[simp] theorem State.advance_settleCount (s : State) : s.advance.settleCount = s.settleCount := rfl
@[simp] theorem State.advance_out (s : State) : s.advance.out = s.out := rfl
@[simp] theorem State.advance_trace (s : State) : s.advance.trace = s.trace := rfl
@[simp] theorem State.advance_idx (s : State) : s.advance.idx = s.idx + 1 := rfl

/-! ### load -/

@[simp] theorem State.load_cfg (s : State) (bytes : List Byte) : (s.load bytes).cfg = s.cfg := rfl
@[simp] theorem State.load_ch (s : State) (bytes : List Byte) : (s.load bytes).ch = s.ch := rfl
@[simp] theorem State.load_busy (s : State) (bytes : List Byte) : (s.load bytes).busy = s.busy := rfl
@[simp] theorem State.load_duty0 (s : State) (bytes : List Byte) : (s.load bytes).duty0 = s.duty0 := rfl
@[simp] theorem State.load_duty1 (s : State) (bytes : List Byte) : (s.load bytes).duty1 = s.duty1 := rfl
@[simp] theorem State.load_duty2 (s : State) (bytes : List Byte) : (s.load bytes).duty2 = s.duty2 := rfl
@[simp] theorem State.load_cmp0 (s : State) (bytes : List Byte) : (s.load bytes).cmp0 = s.cmp0 := rfl
@[simp] theorem State.load_cmp1 (s : State) (bytes : List Byte) : (s.load bytes).cmp1 = s.cmp1 := rfl
@[simp] theorem State.load_cmp2 (s : State) (bytes : List Byte) : (s.load bytes).cmp2 = s.cmp2 := rfl
@[simp] theorem State.load_claw (s : State) (bytes : List Byte) : (s.load bytes).claw = s.claw := rfl
@[simp] theorem State.load_bstate (s : State) (bytes : List Byte) : (s.load bytes).bstate = s.bstate := rfl
@[simp] theorem State.load_settleCount (s : State) (bytes : List Byte) : (s.load bytes).settleCount = s.settleCount := rfl
@[simp] theorem State.load_out (s : State) (bytes : List Byte) : (s.load bytes).out = s.out := rfl
@[simp] theorem State.load_trace (s : State) (bytes : List Byte) : (s.load bytes).trace = bytes := rfl
@[simp] theorem State.load_idx (s : State) (bytes : List Byte) : (s.load bytes).idx = 0 := rfl

/-! ### Indexed reads -/

@[simp] theorem State.pos_setPos (s : State) (i j : Channel) (p : Nat) :
    (s.setPos i p).pos j = if i = j then p % 2 ^ s.cfg.posWidth else s.pos j := by
  fin_cases i <;> fin_cases j <;> rfl

@[simp] theorem State.duty_setDuty (s : State) (a b : Axis) (v : Tick) :
    (s.setDuty a v).duty b = if a = b then v else s.duty b := by
  fin_cases b <;> rfl

@[simp] theorem State.cmp_setCmp (s : State) (a b : Axis) (v : Option Tick) :
    (s.setCmp a v).cmp b = if a = b then v else s.cmp b := by
  fin_cases b <;> rfl

@[simp] theorem State.pos_setBusy (s : State) (b : Bool) (j : Channel) : (s.setBusy b).pos j = s.pos j := by
  fin_cases j <;> rfl
@[simp] theorem State.pos_setClaw (s : State) (k : Claw) (j : Channel) : (s.setClaw k).pos j = s.pos j := by
  fin_cases j <;> rfl
@[simp] theorem State.pos_setDuty (s : State) (a : Axis) (v : Tick) (j : Channel) : (s.setDuty a v).pos j = s.pos j := by
  fin_cases j <;> rfl
@[simp] theorem State.pos_setCmp (s : State) (a : Axis) (v : Option Tick) (j : Channel) : (s.setCmp a v).pos j = s.pos j := by
  fin_cases j <;> rfl
@[simp] theorem State.pos_setCh (s : State) (i : Channel) (j : Channel) : (s.setCh i).pos j = s.pos j := by
  fin_cases j <;> rfl
@[simp] theorem State.pos_setBState (s : State) (b : BState) (j : Channel) : (s.setBState b).pos j = s.pos j := by
  fin_cases j <;> rfl
@[simp] theorem State.pos_setSc (s : State) (n : Nat) (j : Channel) : (s.setSc n).pos j = s.pos j := by
  fin_cases j <;> rfl
@[simp] theorem State.pos_emit (s : State) (a : Action) (j : Channel) : (s.emit a).pos j = s.pos j := by
  fin_cases j <;> rfl
@[simp] theorem State.pos_advance (s : State) (j : Channel) : s.advance.pos j = s.pos j := by
  fin_cases j <;> rfl
@[simp] theorem State.pos_load (s : State) (bytes : List Byte) (j : Channel) : (s.load bytes).pos j = s.pos j := by
  fin_cases j <;> rfl

@[simp] theorem State.duty_setBusy (s : State) (b : Bool) (e : Axis) : (s.setBusy b).duty e = s.duty e := by
  fin_cases e <;> rfl
@[simp] theorem State.duty_setClaw (s : State) (k : Claw) (e : Axis) : (s.setClaw k).duty e = s.duty e := by
  fin_cases e <;> rfl
@[simp] theorem State.duty_setPos (s : State) (i : Channel) (p : Nat) (e : Axis) : (s.setPos i p).duty e = s.duty e := by
  fin_cases e <;> rfl
@[simp] theorem State.duty_setCmp (s : State) (a : Axis) (v : Option Tick) (e : Axis) : (s.setCmp a v).duty e = s.duty e := by
  fin_cases e <;> rfl
@[simp] theorem State.duty_setCh (s : State) (i : Channel) (e : Axis) : (s.setCh i).duty e = s.duty e := by
  fin_cases e <;> rfl
@[simp] theorem State.duty_setBState (s : State) (b : BState) (e : Axis) : (s.setBState b).duty e = s.duty e := by
  fin_cases e <;> rfl
@[simp] theorem State.duty_setSc (s : State) (n : Nat) (e : Axis) : (s.setSc n).duty e = s.duty e := by
  fin_cases e <;> rfl
@[simp] theorem State.duty_emit (s : State) (a : Action) (e : Axis) : (s.emit a).duty e = s.duty e := by
  fin_cases e <;> rfl
@[simp] theorem State.duty_advance (s : State) (e : Axis) : s.advance.duty e = s.duty e := by
  fin_cases e <;> rfl
@[simp] theorem State.duty_load (s : State) (bytes : List Byte) (e : Axis) : (s.load bytes).duty e = s.duty e := by
  fin_cases e <;> rfl

@[simp] theorem State.cmp_setBusy (s : State) (b : Bool) (e : Axis) : (s.setBusy b).cmp e = s.cmp e := by
  fin_cases e <;> rfl
@[simp] theorem State.cmp_setClaw (s : State) (k : Claw) (e : Axis) : (s.setClaw k).cmp e = s.cmp e := by
  fin_cases e <;> rfl
@[simp] theorem State.cmp_setPos (s : State) (i : Channel) (p : Nat) (e : Axis) : (s.setPos i p).cmp e = s.cmp e := by
  fin_cases e <;> rfl
@[simp] theorem State.cmp_setDuty (s : State) (a : Axis) (v : Tick) (e : Axis) : (s.setDuty a v).cmp e = s.cmp e := by
  fin_cases e <;> rfl
@[simp] theorem State.cmp_setCh (s : State) (i : Channel) (e : Axis) : (s.setCh i).cmp e = s.cmp e := by
  fin_cases e <;> rfl
@[simp] theorem State.cmp_setBState (s : State) (b : BState) (e : Axis) : (s.setBState b).cmp e = s.cmp e := by
  fin_cases e <;> rfl
@[simp] theorem State.cmp_setSc (s : State) (n : Nat) (e : Axis) : (s.setSc n).cmp e = s.cmp e := by
  fin_cases e <;> rfl
@[simp] theorem State.cmp_emit (s : State) (a : Action) (e : Axis) : (s.emit a).cmp e = s.cmp e := by
  fin_cases e <;> rfl
@[simp] theorem State.cmp_advance (s : State) (e : Axis) : s.advance.cmp e = s.cmp e := by
  fin_cases e <;> rfl
@[simp] theorem State.cmp_load (s : State) (bytes : List Byte) (e : Axis) : (s.load bytes).cmp e = s.cmp e := by
  fin_cases e <;> rfl

/-- Two states whose registers read alike are the same state: the registers whose width the configuration gives are compared
as numbers, so no statement need compare their bit vectors across two configurations. -/
theorem State.eq_of_reads {s t : State} (hset : SameSetting s t) (hseq : SameSequencer s t) (hchan : ∀ i, SameChannel i s t)
    (hlatch : SameLatch s t) (hcmp : SameCompare s t) (hout : t.out = s.out) : t = s := by
  obtain ⟨h1, h2, h3⟩ := hset
  obtain ⟨h4, h5⟩ := hseq
  obtain ⟨⟨h6, h7⟩, h8, h9⟩ := And.intro (hchan 0) (hchan 1)
  obtain ⟨h10, h11, h12, h13⟩ := hlatch
  have h14 := hcmp 0
  have h15 := hcmp 1
  have h16 := hcmp 2
  cases s
  cases t
  simp only [State.pos, State.duty, State.cmp, State.settleCount, axisOf, clawAxis] at *
  subst h1
  simp only [BitVec.toNat_inj] at h6 h8 h12
  simp only [*]

/-- Two channel positions are the two fields. -/
theorem forall_channel {P : Channel → Prop} : (∀ i, P i) ↔ P 0 ∧ P 1 :=
  ⟨fun h => ⟨h 0, h 1⟩, fun h i => by fin_cases i <;> [exact h.1; exact h.2]⟩

/-- A claim about every axis is three claims. -/
theorem forall_axis {P : Axis → Prop} : (∀ a, P a) ↔ P 0 ∧ P 1 ∧ P 2 :=
  ⟨fun h => ⟨h 0, h 1, h 2⟩, fun h a => by fin_cases a <;> [exact h.1; exact h.2.1; exact h.2.2]⟩

end Sys2Proof.Machine
end

