-- ==== Sys2Proof/Laws/Ops.lean ====
section
/-! SUPPORT. One lemma for each shared operation, saying once everything it does, and what each operation of the block can
answer. -/

namespace Sys2Proof.Machine

/-! ### The sequencer's index -/

theorem repairedChannel_of_lt {ch : ChIndex} (h : ch.toNat < 2) : (repairedChannel ch).val = ch.toNat := by
  simp [repairedChannel, h]

theorem repairedChannel_of_ge {ch : ChIndex} (h : 2 ≤ ch.toNat) : repairedChannel ch = 0 := by
  simp [repairedChannel, Nat.not_lt.2 h]

/-- A written channel number is what the register then reads (10_state R25). -/
theorem setCh_toNat (s : State) (i : Channel) : (s.setCh i).ch.toNat = i.val := by
  fin_cases i <;> rfl

theorem nextChannel_val (i : Channel) : (nextChannel i).val = (i.val + 1) % 2 := by
  fin_cases i <;> rfl

theorem axisOf_ne_claw (i : Channel) : axisOf i ≠ clawAxis := by fin_cases i <;> decide

theorem axisOf_inj {i j : Channel} (h : axisOf i = axisOf j) : i = j := by
  fin_cases i <;> fin_cases j <;> first | rfl | exact absurd h (by decide)

/-! ### The shared operations, each whole -/

theorem trigger_eq (s : State) (i : Channel) : s.trigger i = { s with out := s.out ++ [.sel i, .trig], busy := true } := by
  simp [State.trigger, State.emit, State.setBusy]

/-- INTEGRATE writes the position and the duty-cycle value of its channel, and nothing else (41 R100, R107). -/
theorem integrate_spec (s : State) (i : Channel) (n : Nat) :
    let t := s.integrate i n
    t.pos i = integrateQ s.cfg (s.pos i) n ∧ t.duty (axisOf i) = mapDuty s.cfg i (t.pos i) ∧
    (∀ j, j ≠ i → SameChannel j s t) ∧ SameSequencer s t ∧ SameLatch s t ∧ SameCompare s t ∧ SameSetting s t ∧
    t.out = s.out := by
  have hfit := Nat.mod_eq_of_lt (integrateQ_lt s.cfg (s.pos i) n)
  refine ⟨by simp [State.integrate, hfit], by simp [State.integrate, hfit], fun j hj => ?_, by simp [State.integrate, SameSequencer],
    ?_, by simp [State.integrate, SameCompare], by simp [State.integrate, SameSetting], rfl⟩
  · have h1 : ¬ i = j := fun h => hj h.symm
    have h2 : ¬ axisOf i = axisOf j := fun h => h1 (axisOf_inj h)
    simp [State.integrate, SameChannel, h1, h2]
  · simp [State.integrate, SameLatch, axisOf_ne_claw i]

/-- The toggle writes `claw`, `duty[2]` and `bstate`, and nothing else (43 R136). -/
theorem toggle_eq (s : State) :
    s.toggle = { s with claw := flipClaw s.claw, duty2 := clawTick s.cfg (flipClaw s.claw), bstate := .pressed } := by
  simp [State.toggle, State.setClaw, State.setDuty, State.setBState, clawAxis]

theorem release_eq (s : State) :
    s.release = { s with sc := BitVec.ofNat _ s.cfg.settleMs, bstate := if s.cfg.settleMs = 0 then .idle else .settle } := by
  unfold State.release
  split_ifs with h
  · exact congrArg (fun n => (s.setSc n).setBState .idle) h.symm
  · rfl

theorem settleTick_eq (s : State) :
    s.settleTick = { s with
      sc := BitVec.ofNat _ (s.settleCount - 1), bstate := if s.settleCount ≤ 1 then .idle else s.bstate } := by
  unfold State.settleTick
  split_ifs with h
  · have : 0 = s.settleCount - 1 := by omega
    exact congrArg (fun n => (s.setSc n).setBState .idle) this
  · rfl

/-- The release leaves the count at `SETTLE_MS` (43 R137). -/
@[simp] theorem release_settleCount (s : State) : s.release.settleCount = s.cfg.settleMs := by
  rw [release_eq]; exact Nat.mod_eq_of_lt (Config.settleMs_lt s.cfg)

/-- A tick takes one from the count, down to 0 (43 R142). -/
@[simp] theorem settleTick_settleCount (s : State) : s.settleTick.settleCount = s.settleCount - 1 := by
  rw [settleTick_eq]
  exact (BitVec.toNat_ofNat _ _).trans (Nat.mod_eq_of_lt (lt_of_le_of_lt (Nat.sub_le _ _) s.sc.isLt))

theorem resetRegisters_eq (s : State) :
    s.resetRegisters = { State.powerOn s.cfg with out := s.out, trace := s.trace, idx := s.idx } := rfl

/-- At power-on a position register holds `POS_INIT * Q` whole (10_state R35, 41 R111). -/
theorem powerOn_pos {c : Config} (h : c.wf = true) (i : Channel) : (State.powerOn c).pos i = c.posInitQ := by
  have hfit := Nat.mod_eq_of_lt (Config.posInitQ_lt h)
  fin_cases i <;> exact hfit

/-- So it does after RESET (44 R156). -/
theorem resetRegisters_pos {s : State} (h : s.cfg.wf = true) (i : Channel) : s.resetRegisters.pos i = s.cfg.posInitQ := by
  have hfit := Nat.mod_eq_of_lt (Config.posInitQ_lt h)
  fin_cases i <;> exact hfit

theorem commit_eq (s : State) : ((s.commit 0).commit 1).commit 2 =
    { s with
      cmp0 := some s.duty0, cmp1 := some s.duty1, cmp2 := some s.duty2
      out := s.out ++ [.setDuty 0 s.duty0, .setDuty 1 s.duty1, .setDuty 2 s.duty2] } := by
  simp [State.commit, State.setCmp, State.emit, State.duty]

/-! ### What each shared operation leaves as it was, register by register, as numbers -/

/-- Repairing the index and triggering touch the sequencer's registers and the log only (40 R86). -/
theorem repair_trigger_frame (s : State) (i : Channel) :
    let t := s.repairIndex.trigger i
    (∀ j, SameChannel j s t) ∧ SameLatch s t ∧ SameCompare s t ∧ SameSetting s t := by
  simp [State.repairIndex, State.trigger, SameChannel, SameLatch, SameCompare, SameSetting]

/-- The commit touches the compare registers and the log only (42 R125). -/
theorem commit_frame (s : State) :
    let t := ((s.commit 0).commit 1).commit 2
    (∀ a, t.cmp a = some (s.duty a)) ∧ SameSequencer s t ∧ (∀ j, SameChannel j s t) ∧ SameLatch s t ∧ SameSetting s t := by
  simp only [State.commit, SameSequencer, SameChannel, SameLatch, SameSetting]
  refine ⟨forall_axis.2 ?_, ?_⟩ <;> simp

/-- The toggle touches the latch's registers only (43 R136). -/
theorem toggle_frame (s : State) :
    let t := s.toggle
    SameSequencer s t ∧ (∀ j, SameChannel j s t) ∧ SameCompare s t ∧ SameSetting s t ∧ t.settleCount = s.settleCount ∧
    t.out = s.out := by
  simp [State.toggle, SameSequencer, SameChannel, SameCompare, SameSetting, (axisOf_ne_claw _).symm]

/-- The release touches the latch's state and count only (43 R137). -/
theorem release_frame (s : State) :
    let t := s.release
    SameSequencer s t ∧ (∀ j, SameChannel j s t) ∧ SameCompare s t ∧ SameSetting s t ∧ t.claw = s.claw ∧
    t.duty clawAxis = s.duty clawAxis ∧ t.out = s.out := by
  unfold State.release
  split_ifs <;> simp [SameSequencer, SameChannel, SameCompare, SameSetting]

/-- A tick of the settle interval touches the latch's state and count only (43 R142). -/
theorem settleTick_frame (s : State) :
    let t := s.settleTick
    SameSequencer s t ∧ (∀ j, SameChannel j s t) ∧ SameCompare s t ∧ SameSetting s t ∧ t.claw = s.claw ∧
    t.duty clawAxis = s.duty clawAxis ∧ t.out = s.out := by
  unfold State.settleTick
  split_ifs <;> simp [SameSequencer, SameChannel, SameCompare, SameSetting]

/-! ### What each operation can answer -/

theorem execStart_cases {s t : State} (h : exec .start s = .next t) :
    (s.busy = true ∧ t = s) ∨ (s.busy = false ∧ t = s.repairIndex.trigger (repairedChannel s.ch)) := by
  simp only [exec, execStart] at h
  split at h <;> cases h <;> simp_all

/-- A completion that answers a next state: the operand and `busy` allowed it, the channel served is the repaired index, and
this is everything that changed (40 R87). -/
theorem execConvDone_cases {s t : State} {n : Nat} (h : exec (.convDone n) s = .next t) :
    n ≤ s.cfg.sampleMax ∧ s.busy = true ∧
    t.pos (repairedChannel s.ch) = integrateQ s.cfg (s.pos (repairedChannel s.ch)) n ∧
    t.duty (axisOf (repairedChannel s.ch)) = mapDuty s.cfg (repairedChannel s.ch) (t.pos (repairedChannel s.ch)) ∧
    (∀ j, j ≠ repairedChannel s.ch → SameChannel j s t) ∧ SameLatch s t ∧ SameCompare s t ∧ SameSetting s t ∧
    t.busy = true ∧ t.out = s.out ++ [.sel (nextChannel (repairedChannel s.ch)), .trig] ∧
    t.ch = BitVec.ofNat 2 (nextChannel (repairedChannel s.ch)).val := by
  simp only [exec, execConvDone] at h
  split at h
  · cases h
  split at h
  · cases h
  cases h
  rename_i hn hb
  obtain ⟨hpos, hduty, hother, -, hlatch, hcmp, hset, hout⟩ :=
    integrate_spec (s.setBusy false).repairIndex (repairedChannel s.ch) n
  refine ⟨by omega, by simp_all, ?_, ?_, fun j hj => ?_, ?_, ?_, ?_, rfl, ?_, rfl⟩
  · simpa [State.trigger, State.repairIndex] using hpos
  · simpa [State.trigger, State.repairIndex] using hduty
  · simpa [State.trigger, State.repairIndex, SameChannel] using hother j hj
  · simpa [State.trigger, State.repairIndex, SameLatch] using hlatch
  · simpa [State.trigger, State.repairIndex, SameCompare] using hcmp
  · simpa [State.trigger, State.repairIndex, SameSetting] using hset
  · simpa [State.trigger, State.repairIndex] using hout

/-- A completion is served when a conversion is outstanding and the sample is one a word can spell. -/
theorem execConvDone_next {s : State} {n : Nat} (hb : s.busy = true) (hn : n ≤ s.cfg.sampleMax) :
    ∃ t, exec (.convDone n) s = .next t := by
  simp only [exec, execConvDone, hb, if_neg (Nat.not_lt.2 hn)]
  exact ⟨_, rfl⟩

theorem execPoll_cases {s t : State} {b : Bool} (h : exec (.poll b) s = .next t) :
    (s.bstate = .idle ∧ b = true ∧ t = s.toggle) ∨ (s.bstate = .pressed ∧ b = false ∧ t = s.release) ∨
    (s.bstate ≠ .invalid ∧ t = s ∧ ((s.bstate = .idle ∧ b = false) ∨ (s.bstate = .pressed ∧ b = true) ∨
      s.bstate = .settle)) := by
  cases b <;> simp only [exec, execPoll] at h <;> split at h <;> cases h <;> simp_all

theorem execMsTick_cases {s t : State} (h : exec .msTick s = .next t) :
    (s.bstate = .settle ∧ t = s.settleTick) ∨ ((s.bstate = .idle ∨ s.bstate = .pressed) ∧ t = s) := by
  simp only [exec, execMsTick] at h
  split at h <;> cases h <;> simp_all

end Sys2Proof.Machine
end

