-- ==== Sys2Proof/Laws/PerInstr.lean ====
section
/-! SUPPORT. The family OpField: the op field of every operation's word is its opcode (30_encoding R65, R68). -/

namespace Sys2Proof.Laws.OpField

/-- The op field of the operation's word is the opcode of its row. -/
def Statement (i : Instr) : Prop := opField (encode i) = i.opcode

theorem opField_eventWord (op : BitVec 4) (arg : BitVec 12) : opField (eventWord op arg) = op := by
  ext k hk
  have h : (op ++ arg : BitVec (4 + 12)).getLsbD (12 + k) = op.getLsbD k := by
    rw [BitVec.getLsbD_append, if_neg (by omega), Nat.add_sub_cancel_left]
  simpa [opField, eventWord, BitVec.getLsbD_eq_getElem hk] using h

theorem nop : Statement .nop := opField_eventWord _ _
theorem start : Statement .start := opField_eventWord _ _
theorem convDone (s : Nat) : Statement (.convDone s) := opField_eventWord _ _
theorem pwmOvf : Statement .pwmOvf := opField_eventWord _ _
theorem poll (b : Bool) : Statement (.poll b) := opField_eventWord _ _
theorem msTick : Statement .msTick := opField_eventWord _ _
theorem reset : Statement .reset := opField_eventWord _ _

end Sys2Proof.Laws.OpField
end

