-- ==== Sys2Proof/Machine/Signals.lean ====
section
/-! DEFINITION. The interface signals of 10_state R37: names, directions, widths, and which event or output action each
carries. The operations are stated over events and actions; the signals are only their carriers. -/

namespace Sys2Proof.Machine

/-- The signals (10_state R37). -/
inductive Signal where
  | rst
  | start
  | adcDone
  | adcData
  | adcChan
  | adcStart
  | pwmOvf
  | pwmCmp (a : Axis)
  | btn
  | poll
  | msTick
  | clawOpen
  deriving DecidableEq, Repr

/-- The directions of a signal (10_state R37). -/
inductive Direction where
  | input
  | output
  deriving DecidableEq, Repr

/-- The direction column of 10_state R37. -/
def Signal.direction : Signal → Direction
  | .rst => .input
  | .start => .input
  | .adcDone => .input
  | .adcData => .input
  | .adcChan => .output
  | .adcStart => .output
  | .pwmOvf => .input
  | .pwmCmp _ => .output
  | .btn => .input
  | .poll => .input
  | .msTick => .input
  | .clawOpen => .output

/-- The width column of 10_state R37. -/
def Signal.width (c : Config) : Signal → Nat
  | .rst => 1
  | .start => 1
  | .adcDone => 1
  | .adcData => c.sw
  | .adcChan => chIndexWidth
  | .adcStart => 1
  | .pwmOvf => 1
  | .pwmCmp _ => tickWidth
  | .btn => 1
  | .poll => 1
  | .msTick => 1
  | .clawOpen => 1

/-- The input strobe of an event: "An input strobe is one event" (10_state R37). NOP has no signal. -/
def strobe : Instr → Option Signal
  | .nop => none
  | .start => some .start
  | .convDone _ => some .adcDone
  | .pwmOvf => some .pwmOvf
  | .poll _ => some .poll
  | .msTick => some .msTick
  | .reset => some .rst

/-- The signal that carries an event's operand, with its value (10_state R37). -/
def operandSignal : Instr → Option (Signal × Nat)
  | .convDone s => some (.adcData, s)
  | .poll b => some (.btn, if b then 1 else 0)
  | .nop => none
  | .start => none
  | .pwmOvf => none
  | .msTick => none
  | .reset => none

/-- The output signal an action pulses or drives, with its value: "an output pulse is one output action" (10_state R37). -/
def actionSignal : Action → Signal × Nat
  | .sel i => (.adcChan, i.val)
  | .trig => (.adcStart, 1)
  | .setDuty a v => (.pwmCmp a, v.toNat)

/-- The level of `pwm_cmp0`, `pwm_cmp1`, `pwm_cmp2`: the compare register, no value while unwritten (10_state R37, R24). -/
def pwmCmpLevel (s : State) (a : Axis) : Option Tick := s.cmp a

/-- The level of `claw_open`, for observation (10_state R37). -/
def clawOpenLevel (s : State) : Bool := clawCode s.claw

end Sys2Proof.Machine
end

