-- ==== Sys2Proof/Tests/Slice0.lean ====
section
/-! SUPPORT. Tests: expected values are those of spec/95_test_vectors.md (REF) or worked by hand from the rules; then, for each
statement with hypotheses, a state and operands that meet them. -/

namespace Sys2Proof.Tests

open Sys2Proof.Machine

/-! ### Helpers -/

/-- What a field of the next state is, when there is one. -/
def onNext {α : Type} (r : Result) (f : State → α) : Option α :=
  match r with
  | .next t => some (f t)
  | .fault _ => none
  | .refused _ => none

/-- The refusal, when there is one. -/
def refusalOf (r : Result) : Option Refusal :=
  match r with
  | .next _ => none
  | .fault _ => none
  | .refused q => some q

/-- The answer of the decoder, when it is an operation. -/
def decoded (c : Config) (w : EventWord) : Option Instr := (decode c w).toOption

/-- The reset state of REF after START. -/
def running : State := { State.reset with busy := true, out := [.sel 0, .trig] }

/-- The reset state of REF with the button held. -/
def held : State := { State.reset with bstate := .pressed, claw := .opened, duty2 := 1900 }

/-- The power-on state of a configuration with the button held. -/
def heldIn (c : Config) : State := { State.powerOn c with bstate := .pressed, claw := .opened, duty2 := clawTick c .opened }

/-- The reset state of REF in the settle interval, with `n` ticks to go. -/
def settling (n : Nat) : State := { held with bstate := .settle, sc := BitVec.ofNat _ n }

/-- A small configuration with unequal spans (`UP_SPAN = 5`, `DN_SPAN = 3`), a fractional rate 1/2 and no settle interval. -/
def small : Config where
  sw := 4
  tLow := 3
  tHigh := 10
  rateNum := 1
  rateDen := 2
  positionMax := 7
  axis0 := ⟨0, 70⟩
  axis1 := ⟨5, 5⟩
  axis2 := ⟨10, 20⟩
  clawOpenTick := 20
  clawClosedTick := 10
  settleMs := 0

/-! ### Well-formedness: REF and the small configuration pass, and each line refuses an ill-formed term -/

theorem test_wf_ref : Config.ref.wf = true ∧ small.wf = true := by decide
theorem test_wf_fixed_lines : Config.line1 = true ∧ Config.line10 = true ∧ Config.ref.line9 = true := by decide
theorem test_wf_line2 : Config.wf { Config.ref with sw := 13 } = false ∧ Config.line2 { Config.ref with sw := 0 } = false := by
  decide
theorem test_wf_line3 : Config.wf { Config.ref with tLow := 0 } = false ∧ Config.wf { Config.ref with tLow := 576 } = false ∧
    Config.wf { Config.ref with tHigh := 1023 } = false := by decide
theorem test_wf_line4 : Config.wf { Config.ref with rateNum := 0 } = false ∧ Config.wf { Config.ref with rateDen := 0 } = false := by
  decide
theorem test_wf_line5 : Config.line5 { Config.ref with positionMax := 0 } = false := by decide
theorem test_wf_line6 : Config.wf { Config.ref with posInitNum := 2001 } = false ∧
    Config.wf { Config.ref with posInitNum := 1, posInitDen := 449 } = false ∧
    Config.wf { Config.ref with posInitDen := 0 } = false := by decide
theorem test_wf_line7 : Config.wf { Config.ref with axis0 := ⟨5, 4⟩ } = false ∧
    Config.wf { Config.ref with axis1 := ⟨0, 65536⟩ } = false := by decide
theorem test_wf_line8 : Config.wf { Config.ref with clawOpenTick := 2001 } = false ∧
    Config.wf { Config.ref with clawClosedTick := 999 } = false := by decide
theorem test_wf_instr : Instr.wf Config.ref (.convDone 1023) = true ∧ Instr.wf Config.ref (.convDone 1024) = false := by decide

/-! ### Decoding: words written out from 30_encoding R68, and the rows of 95_test_vectors section 2 -/

theorem test_decode_words :
    [0b0000000000000000, 0b0001000000000000, 0b0010000000000000, 0b0010000111000000, 0b0011000000000000,
      0b0100000000000000, 0b0100000000000001, 0b0101000000000000, 0b1111000000000000].map (decoded Config.ref) =
    [some .nop, some .start, some (.convDone 0), some (.convDone 448), some .pwmOvf, some (.poll false), some (.poll true),
      some .msTick, some .reset] := by decide

theorem test_decode_reserved :
    [0x0001, 0x1800, 0x2400, 0x2FFF, 0x3001, 0x4002, 0x4003, 0x5001, 0x6000, 0xE000, 0xFFFF].all
      (fun w => (decoded Config.ref w).isNone) = true := by decide

theorem test_decode_other_width : decoded small 0x200F = some (.convDone 15) ∧ decoded small 0x2010 = none := by decide

theorem test_encode : encode (.convDone 1023) = 0x23FF ∧ encode (.poll true) = 0x4001 := by decide

theorem test_trace_bytes :
    (decodeTrace Config.ref [0x00, 0xF0, 0x00, 0x10, 0xFF, 0x23, 0x00, 0x30]).toOption =
      some [.reset, .start, .convDone 1023, .pwmOvf] ∧
    decodeTrace Config.ref [0x00, 0xF0, 0x00, 0x10, 0xFF, 0x23, 0x00] = .error .oddLength := ⟨by decide, rfl⟩

theorem test_table_words : decodeTableWord 16 0x23FF = some (.convDone 1023) ∧ decodeTableWord 16 0xF000 = some .reset ∧
    decodeTableWord 16 0x2400 = none := by decide

/-- The text of 30_encoding R73 and R74: `conv 7`, a comment, `hold 2`, a `rep` block. -/
theorem test_text :
    (parseText Config.ref (kwConv ++ [' ', '7', '#', 'x', '\n'] ++ kwHold ++ [' ', '2', '\n'] ++
      kwRep ++ [' ', '2', ' ', openBrace, ' '] ++ kwMs ++ [' ', closeBrace])).toOption =
      some [.convDone 7, .msTick, .poll true, .msTick, .poll true, .msTick, .msTick] := by decide

theorem test_text_out_of_range : (parseText Config.ref (kwConv ++ [' ', '1', '0', '2', '4'])).toOption = none := by decide

/-! ### Functions: 95_test_vectors sections 3 and 4 -/

theorem test_deltaQ : [0, 1, 100, 300, 447, 448, 512, 575, 576, 577, 800, 1022, 1023].map (deltaQ Config.ref) =
    [-4480, -4470, -3480, -1480, -10, 0, 0, 0, 10, 20, 2250, 4470, 4480] := by decide

theorem test_integrate : [(224000, 576), (224000, 447), (445760, 1023), (2240, 0), (2, 447), (448000, 576), (537600, 512)].map
    (fun x => integrateQ Config.ref x.1 x.2) = [224010, 223990, 448000, 0, 0, 448000, 448000] := by decide

/-- By hand for the small configuration: `L = 15`, `Q = 30`, `KU = 3`, `KD = 5`, `PMAXQ = 210`, `POS_INIT * Q = 105`. -/
theorem test_small_config : (small.scale, small.ku, small.kd, small.pmaxq, small.posInitQ) = (30, 3, 5, 210, 105) ∧
    [15, 11, 10, 3, 2, 0].map (integrateQ small 105) = [120, 108, 105, 105, 100, 90] := by decide

/-- `MAP(0, p)` and `MAP(1, p)` at `posq = 0, 1, 224, 448, 223552, 223776, 224000, 447999, 448000`. -/
theorem test_map : [0, 1, 224, 448, 223552, 223776, 224000, 447999, 448000].map (mapTick Config.ref 0) =
      [1000, 1000, 1000, 1001, 1499, 1499, 1500, 1999, 2000] ∧
    [0, 1, 224, 448, 223552, 223776, 224000, 447999, 448000].map (mapTick Config.ref 1) =
      [600, 600, 600, 601, 1498, 1499, 1500, 2399, 2400] := by decide

theorem test_widths : Config.ref.posWidth = 19 ∧ Config.ref.settleWidth = 8 ∧ small.settleWidth = 0 := by decide

/-! ### Operations: 95_test_vectors sections 5 to 8 -/

theorem test_reset_state : (State.reset.pos0, State.reset.duty0, State.reset.duty1, State.reset.duty2, State.reset.cmp0) =
    (224000, 1500, 1500, 1100, none) := by decide

theorem test_nop : onNext (exec .nop running) (fun t => decide (t = running)) = some true := by decide

theorem test_start : onNext (exec .start State.reset) (fun t => (t.ch, t.busy, t.out)) = some (0, true, [.sel 0, .trig]) := by
  decide
theorem test_start_repairs : onNext (exec .start { State.reset with ch := 3 }) (fun t => (t.ch, t.out)) =
    some (0, [.sel 0, .trig]) := by decide

theorem test_conv_channel1 : onNext (exec (.convDone 0) { running with ch := 1 })
    (fun t => (t.pos 0, t.pos 1, t.duty0, t.duty1, t.ch, t.busy)) = some (224000, 219520, 1500, 1482, 0, true) := by decide
theorem test_conv_repairs : onNext (exec (.convDone 1023) { running with ch := 3 })
    (fun t => (t.pos 0, t.duty0, t.ch, t.out)) = some (228480, 1510, 1, [.sel 0, .trig, .sel 1, .trig]) := by decide
theorem test_conv_refused : refusalOf (exec (.convDone 512) State.reset) = some .convDoneIdle := by decide

theorem test_ovf_corrupt : onNext (exec .pwmOvf { State.reset with duty0 := 50000 }) (fun t => (t.cmp0, t.cmp1, t.cmp2, t.out)) =
    some (some 50000, some 1500, some 1100, [.setDuty 0 50000, .setDuty 1 1500, .setDuty 2 1100]) := by decide

theorem test_poll_toggle : onNext (exec (.poll true) State.reset) (fun t => (t.claw, t.duty2, t.bstate, t.cmp2)) =
    some (.opened, 1900, .pressed, none) := by decide
theorem test_poll_release : onNext (exec (.poll false) held) (fun t => (t.claw, t.bstate, t.settleCount)) = some (.opened, .settle, 150) ∧
    onNext (exec (.poll false) (heldIn small)) (fun t => (t.bstate, t.settleCount)) = some (.idle, 0) := by decide

theorem test_ms_counts : onNext (exec .msTick (settling 2)) (fun t => (t.bstate, t.settleCount)) = some (.settle, 1) := by decide
theorem test_ms_leaves : onNext (exec .msTick (settling 1)) (fun t => (t.bstate, t.settleCount)) = some (.idle, 0) ∧
    refusalOf (exec .msTick { State.reset with bstate := .invalid }) = some .bstateInvalid := by decide

theorem test_reset_repairs : onNext (exec .reset { running with bstate := .invalid, ch := 3, pos1 := 7, cmp0 := some 9 })
    (fun t => decide (t = { State.reset with out := [.sel 0, .trig] })) = some true := by decide

/-! ### The step -/

theorem test_step_first : onNext (step (State.reset.withFetchWord 16 0x1000)) (fun t => (t.busy, t.idx)) = some (true, 1) := by
  decide
theorem test_step_whole_trace_refused :
    refusalOf (step (State.reset.load [0x00, 0x10, 0x00, 0x60])) = some (.badTrace (.reservedOp 0x6000)) := by decide

/-! ### Signals -/

theorem test_signals : operandSignal (.convDone 9) = some (.adcData, 9) ∧ actionSignal (.setDuty 2 1900) = (.pwmCmp 2, 1900) ∧
    clawOpenLevel held = true := by decide

/-! ### A state and operands for the hypotheses of each statement

A statement over every state, operation or configuration without a hypothesis has none here. -/

theorem test_witness_MatchAndMaskOfEveryRow : Config.ref.wf = true ∧ small.wf = true := by decide

theorem test_witness_DecodeAndEncodeAreInverse : Config.ref.wf = true ∧
    decode Config.ref 0x23FF = .ok (.convDone 1023) ∧ Instr.wf Config.ref (.convDone 1023) = true := ⟨by decide, rfl, by decide⟩

theorem test_witness_ReservedWordsRefusedWhole : State.reset.cfg.wf = true ∧
    (State.reset.load [0x00, 0x10, 0x00, 0x60]).trace = [0x1000, 0x6000].flatMap wordBytes ∧
    decode State.reset.cfg 0x6000 = .error (.reservedOp 0x6000) := ⟨by decide, by decide, rfl⟩

theorem test_witness_StoredTraceIsLittleEndianWords : Config.ref.wf = true ∧
    (∀ i ∈ [Instr.nop, .convDone 1023], i.wf Config.ref = true) ∧ [0x12#8].length % 2 = 1 := by decide

theorem test_witness_TraceTextRoundTrip : Config.ref.wf = true ∧ ∀ i ∈ [Instr.convDone 1023, .poll true], i.wf Config.ref = true := by
  decide

theorem test_witness_StepRunsTheEventAtTheIndex : Config.ref.wf = true ∧
    decodeTrace Config.ref (State.reset.withFetchWord 16 0x1000).trace = .ok [.start] ∧
    [Instr.start][(State.reset.withFetchWord 16 0x1000).idx]? = some .start := ⟨by decide, rfl, rfl⟩

theorem test_witness_StepAtTheEndOfTheTraceIsIdle : State.reset.cfg.wf = true ∧
    decodeTrace State.reset.cfg State.reset.trace = .ok [] ∧ ([] : List Instr).length ≤ State.reset.idx := ⟨by decide, rfl, by decide⟩

theorem test_witness_IllFormedConfigurationIsRefused : Config.ref.posInitDen ≠ 0 ∧
    Config.posInitDen { Config.ref with posInitDen := 0 } = 0 ∧
    (State.powerOn { Config.ref with tLow := 0 }).cfg.wf = false := by decide

theorem test_witness_ResetValues : small.wf = true ∧ ∃ s0 s, s0.cfg = small ∧ exec .reset s0 = .next s :=
  ⟨by decide, State.powerOn small, _, rfl, rfl⟩

theorem test_witness_IdleAfterReset : (∃ t, exec .start (State.powerOn small) = .next t ∧ t ≠ State.powerOn small) ∧
    .start ∉ [Instr.pwmOvf, .poll true] ∧ (∃ t, execAll [.pwmOvf, .poll true] (State.powerOn small) = .next t) ∧
    15 ≤ small.sampleMax := ⟨⟨_, rfl, by decide⟩, by decide, ⟨_, rfl⟩, by decide⟩

theorem test_witness_StartOperation : running.busy = true ∧ State.reset.busy = false ∧
    (0 : Channel).val = (if 2 ≤ State.reset.ch.toNat then 0 else State.reset.ch.toNat) ∧
    (0 : Channel).val = (if 2 ≤ (State.ch { State.reset with ch := 2 }).toNat then 0 else 2) := by decide

theorem test_witness_ConvDoneOperation : running.cfg.wf = true ∧ running.cfg.sampleMax = 1023 ∧ running.busy = true ∧
    State.reset.busy = false ∧ (0 : Channel).val = (if 2 ≤ running.ch.toNat then 0 else running.ch.toNat) := by decide

theorem test_witness_StrayCompletionIsRefused : State.reset.busy = false ∧ 1023 ≤ State.reset.cfg.sampleMax ∧
    State.reset.cfg.sampleMax < 1024 := by decide

theorem test_witness_IndexRepairServesChannelZero : 2 ≤ (State.ch { State.reset with ch := 2 }).toNat ∧
    State.reset.busy = false ∧ running.busy = true ∧
    onNext (exec .nop { State.reset with ch := 3 }) (fun t => decide (2 ≤ t.ch.toNat)) = some true := by decide

theorem test_witness_RoundRobinVisitingOrder : .reset ∉ [Instr.start, .convDone 0, .convDone 15] ∧
    ∃ t u, execAll [.start, .convDone 0, .convDone 15] (State.powerOn small) = .next t ∧
      (selections t.out)[2]? = some 0 ∧ exec (.convDone 3) t = .next u ∧ (1 : Channel).val ≠ 2 % 2 :=
  ⟨by decide, _, _, rfl, by decide, rfl, by decide⟩

theorem test_witness_AtMostOneConversionOutstanding : .reset ∉ [Instr.start, .convDone 0] ∧
    ∃ t, execAll [.start, .convDone 0] (State.powerOn small) = .next t := ⟨by decide, _, rfl⟩

theorem test_witness_LostCompletionStallsSampling : running.busy = true ∧ .reset ∉ [Instr.poll true, .pwmOvf, .start] ∧
    completions [.poll true, .pwmOvf, .start] = 0 ∧ ∃ t, execAll [.poll true, .pwmOvf, .start] running = .next t :=
  ⟨by decide, by decide, by decide, _, rfl⟩

theorem test_witness_IntegratorMatchesRationalFormulas : small.wf = true ∧ 15 ≤ small.sampleMax ∧ small.tHigh < 11 ∧ 2 < small.tLow ∧
    small.tLow ≤ 3 ∧ 10 ≤ small.tHigh := by decide

theorem test_witness_IntegratorMonotoneAndRateLimited : small.wf = true ∧ 15 ≤ small.sampleMax ∧ 210 ≤ small.pmaxq ∧
    small.tLow ≤ 3 ∧ 10 ≤ small.tHigh ∧ small.tHigh < 11 ∧ 2 < small.tLow := by decide

theorem test_witness_FullScaleSamplesIterate : small.wf = true := by decide

theorem test_witness_ScenarioOneReachesTheTop : Config.ref.wf = true ∧
    (Config.ref.positionMax : ℚ) ≤ Config.ref.posInit + 100 * Config.ref.rateMax := by
  refine ⟨by decide, ?_⟩
  norm_num [Config.ref, Config.posInit, Config.rateMax]

theorem test_witness_inv : Inv State.reset where
  cfg_wf := by decide
  ch_valid := by decide
  pos_le := by decide
  duty_map := by decide
  duty_bounds := by unfold InBounds; decide
  duty_claw := by decide
  cmp_bounds := by intro a v h; fin_cases a <;> cases h
  cmp_together := by decide
  bstate_valid := by decide
  sc_idle := by decide
  sc_settle := by decide

theorem test_witness_DeadZoneRunMovesNothing : Inv State.reset ∧ .reset ∉ [Instr.start, .convDone 448, .convDone 575] ∧
    (∀ n, Instr.convDone n ∈ [Instr.start, .convDone 448, .convDone 575] →
      State.reset.cfg.tLow ≤ n ∧ n ≤ State.reset.cfg.tHigh) ∧
    ∃ t, execAll [.start, .convDone 448, .convDone 575] State.reset = .next t := by
  refine ⟨test_witness_inv, by decide, fun n hn => ?_, _, rfl⟩
  simp only [List.mem_cons, Instr.convDone.injEq, List.not_mem_nil, or_false, reduceCtorEq, false_or] at hn
  rcases hn with rfl | rfl <;> decide

theorem test_witness_ChannelsAreIndependent :
    (0 : Channel).val = (if 2 ≤ running.ch.toNat then 0 else running.ch.toNat) ∧
    (State.pos { running with pos1 := 5, claw := .opened } 0) = running.pos 0 ∧
    (∃ t, exec (.convDone 9) running = .next t) ∧
    ∃ t, exec (.convDone 9) { running with pos1 := 5, claw := .opened } = .next t := ⟨by decide, by decide, ⟨_, rfl⟩, _, rfl⟩

theorem test_witness_MapperMatchesFloorFormula : small.wf = true := by decide

theorem test_witness_MapperMonotoneBoundedExactAtEnds : small.wf = true ∧ tickSpan small 1 = 0 ∧ (0 : ℚ) ≤ small.positionMax ∧
    15 ≤ small.sampleMax := ⟨by decide, by decide, by positivity, by decide⟩

theorem test_witness_CorruptRegistersHeal : State.reset.cfg.wf = true ∧ State.reset.bstate = .idle ∧
    (0 : Channel).val = (if 2 ≤ (State.ch { running with ch := 3, pos0 := 500000, duty0 := 7 }).toNat then 0 else 3) ∧
    ∃ t, exec (.convDone 512) { running with ch := 3, pos0 := 500000, duty0 := 7 } = .next t :=
  ⟨by decide, by decide, by decide, _, rfl⟩

theorem test_witness_CommitLatency : .pwmOvf ∉ [Instr.poll true, .start] ∧ .reset ∉ [Instr.poll true, .start] ∧
    ∃ t, execAll [.poll true, .start] State.reset = .next t := ⟨by decide, by decide, _, rfl⟩

theorem test_witness_CommittedValuesWereDutyValues :
    ∃ t, execAll [.poll true, .pwmOvf] State.reset = .next t ∧ t.cmp 2 = some 1900 := ⟨_, rfl, by decide⟩

theorem test_witness_CommitSeesOldOrNewTick : running.busy = true ∧ 1023 ≤ running.cfg.sampleMax ∧
    (0 : Channel).val = (if 2 ≤ running.ch.toNat then 0 else running.ch.toNat) := by decide

theorem test_witness_PollOperation : State.reset.bstate = .idle ∧ State.reset.claw = .closed ∧
    (State.claw { State.reset with claw := .opened }) = .opened ∧ held.bstate = .pressed ∧ held.cfg.settleMs ≠ 0 ∧
    (heldIn small).cfg.settleMs = 0 ∧ (settling 150).bstate = .settle := by decide

theorem test_witness_MsTickOperation : (settling 1).bstate = .settle ∧ (settling 1).sc.toNat ≤ 1 ∧ 1 < (settling 2).sc.toNat ∧
    State.reset.bstate = .idle ∧ held.bstate = .pressed := by decide

theorem test_witness_InvalidLatchPatternIsRefused : (State.bstate { State.reset with bstate := .invalid }) = .invalid ∧
    onNext (exec .nop { State.reset with bstate := .invalid }) (fun t => t.bstate) = some .invalid := by decide

theorem test_witness_StuckInputStaysPressed : held.bstate = .pressed ∧ .poll false ∉ [Instr.poll true, .msTick, .start] ∧
    .reset ∉ [Instr.poll true, .msTick, .start] ∧
    ∃ t, execAll [.poll true, .msTick, .start] held = .next t ∧ t.busy = true ∧ 1023 ≤ t.cfg.sampleMax :=
  ⟨by decide, by decide, by decide, _, rfl, by decide, by decide⟩

theorem test_witness_ClawFlipsExactlyAtAssertedPollInIdle : Instr.poll true ≠ .reset ∧
    ∃ t, exec (.poll true) State.reset = .next t := ⟨by decide, _, rfl⟩

theorem test_witness_OneTogglePerPress : State.reset.bstate = .idle ∧ .poll true ∈ [Instr.poll true, .msTick, .poll true] ∧
    .poll false ∉ [Instr.poll true, .msTick, .poll true] ∧ .reset ∉ [Instr.poll true, .msTick, .poll true] ∧
    ∃ t, execAll [.poll true, .msTick, .poll true] State.reset = .next t :=
  ⟨by decide, by decide, by decide, by decide, _, rfl⟩

theorem test_witness_BounceOnPressFlipsTwice : State.reset.bstate = .idle ∧ 1 ≤ State.reset.cfg.settleMs ∧
    149 < State.reset.cfg.settleMs := by decide

/-- The first and the last tick of a settle interval of two: `[MS_TICK]` is short of it, and one more ends it. -/
theorem test_witness_SettleIntervalLength :
    held.bstate = .pressed ∧ 1 ≤ (heldIn { Config.ref with settleMs := 2 }).cfg.settleMs ∧
    ∃ r t, exec (.poll false) (heldIn { Config.ref with settleMs := 2 }) = .next r ∧ .reset ∉ [Instr.msTick, .poll true] ∧
      execAll [.msTick, .poll true] r = .next t ∧ ticks [.msTick, .poll true] < 2 ∧ ticks [.msTick, .poll true] + 1 = 2 :=
  ⟨by decide, by decide, _, _, rfl, by decide, rfl, by decide, by decide⟩

theorem test_witness_InvariantsHoldAtReset : small.wf = true := by decide

theorem test_witness_EveryStepKeepsTheInvariants : Inv State.reset ∧ ∃ t, step State.reset = .next t :=
  ⟨test_witness_inv, _, rfl⟩

theorem test_witness_ContractIsExactlyWhatIsServed : Inv State.reset ∧ small.wf = true := ⟨test_witness_inv, by decide⟩

theorem test_witness_SingleWriterAndOwnReads : Instr.pwmOvf ≠ .reset ∧
    onNext (exec .start State.reset) (fun t => decide (t.busy = State.reset.busy)) = some false ∧
    onNext (exec (.poll true) State.reset) (fun t => decide (t.claw = State.reset.claw)) = some false ∧
    onNext (exec .pwmOvf State.reset) (fun t => decide (t.cmp 0 = State.reset.cmp 0)) = some false ∧
    onNext (exec (.convDone 0) running) (fun t => decide (t.pos 0 = running.pos 0)) = some false := by decide

/-- Two states that agree on the sequencer and on channel 0 and on nothing else, in which the same completion is served. -/
theorem test_witness_SingleWriterAndOwnReads_reads :
    let s' : State := { running with pos1 := 5, duty1 := 7, claw := .opened, bstate := .settle, sc := 9 }
    s'.cfg = running.cfg ∧ SameSequencer running s' ∧ SameChannel 0 running s' ∧ ¬ SameChannel 1 running s' ∧
    (∃ t, exec (.convDone 9) running = .next t) ∧ ∃ t', exec (.convDone 9) s' = .next t' :=
  ⟨rfl, ⟨rfl, rfl⟩, ⟨rfl, rfl⟩, fun h => absurd h.2 (by decide), ⟨_, rfl⟩, _, rfl⟩

theorem test_witness_ConfigurationIsNeverWritten : ∃ t, execAll [.start, .convDone 3, .reset] (State.powerOn small) = .next t :=
  ⟨_, rfl⟩

theorem test_witness_RegisterWidthsSuffice : small.wf = true ∧ Config.ref.pmaxq < 2 ^ 19 ∧ Config.ref.settleMs < 2 ^ 8 := by
  decide

theorem test_witness_ResetOperation : small.wf = true := by decide

end Sys2Proof.Tests
end

/-! PROOFS. The family of 10_state.md: the reset values (R35), and the output log, which no operation reads (R30). -/

namespace Sys2Proof.Machine

/-! ### The register form computes the rational form: MAP and `POS_INIT` -/

/-- Clamping natural numbers and clamping them as integers is the same. -/
theorem clamp_natCast (v lo hi : Nat) : ((clamp v lo hi : Nat) : Int) = clamp (v : Int) lo hi := by
  simp only [clamp, Nat.cast_lt]
  split_ifs <;> rfl

/-- The register form of MAP is its rational form at the position the register stands for (41 R110, 42 R124). -/
theorem mapTick_cast {c : Config} (h : c.wf = true) (i : Channel) (p : Nat) :
    (mapTick c i p : Int) = mapRat c i (position c p) := by
  obtain ⟨hspan, -⟩ := (Config.wf_lines h).2.2.2.2.2.1 (axisOf i)
  have hquot : position c p * (((c.bounds (axisOf i)).max : ℚ) - (c.bounds (axisOf i)).min) / c.positionMax =
      ((p * tickSpan c i : Nat) : ℚ) / (c.pmaxq : Nat) := by
    unfold position tickSpan Config.pmaxq
    push_cast [Nat.cast_sub hspan]
    rw [div_mul_eq_mul_div, div_div, mul_comm (c.scale : ℚ)]
  rw [mapRat, hquot, Rat.floor_natCast_div_natCast, mapTick, clamp_natCast, Nat.cast_add, Int.natCast_ediv]

/-- The reset value of a position register stands for exactly `POS_INIT` (00_scope R11 line 6). -/
theorem position_posInitQ {c : Config} (h : c.wf = true) : position c c.posInitQ = c.posInit := by
  obtain ⟨hden, -, hint⟩ := (Config.wf_lines h).2.2.2.2.1
  have hden' : (c.posInitDen : ℚ) ≠ 0 := by exact_mod_cast hden.ne'
  have hscale : (c.scale : ℚ) ≠ 0 := by exact_mod_cast (Config.scale_pos h).ne'
  rw [position, Config.posInitQ, Nat.cast_div (Nat.dvd_of_mod_eq_zero hint) hden', Config.posInit, Nat.cast_mul]
  field_simp

/-! ### The registers after reset -/

/-- Every register holds its value of the table of 10_state R35, the position registers and ticks in the register form. -/
structure HasResetRegisters (c : Config) (s : State) : Prop where
  ch : s.ch = 0
  busy : s.busy = false
  pos : ∀ i, s.pos i = c.posInitQ
  duty : ∀ i, s.duty (axisOf i) = mapDuty c i c.posInitQ
  claw : s.claw = c.clawInit
  duty_claw : s.duty clawAxis = clawTick c c.clawInit
  cmp : ∀ a, s.cmp a = none
  bstate : s.bstate = .idle
  settleCount : s.settleCount = 0

theorem powerOn_hasResetRegisters {c : Config} (h : c.wf = true) : HasResetRegisters c (State.powerOn c) where
  ch := rfl
  busy := rfl
  pos := powerOn_pos h
  duty := forall_channel.2 ⟨rfl, rfl⟩
  claw := rfl
  duty_claw := rfl
  cmp := forall_axis.2 ⟨rfl, rfl, rfl⟩
  bstate := rfl
  settleCount := BitVec.toNat_zero

/-- RESET brings the registers to their values at power-on, from any state (44 R156): what it keeps of the state, the log and
the trace, no clause reads. -/
theorem resetRegisters_hasResetRegisters {s : State} (h : s.cfg.wf = true) :
    HasResetRegisters s.cfg s.resetRegisters :=
  { powerOn_hasResetRegisters h with }

theorem eq_resetRegisters_of_exec_reset {s t : State} (h : exec .reset s = .next t) : t = s.resetRegisters := by
  cases h; rfl

/-- Settles O11: power-on and RESET leave the same registers, and the register forms of MAP and `POS_INIT` are exact. -/
theorem resetValues : Obligations.ResetValues := by
  intro c hwf s hs
  have hreg : HasResetRegisters c s := by
    obtain rfl | ⟨s0, rfl, hreset⟩ := hs
    · exact powerOn_hasResetRegisters hwf
    · rw [eq_resetRegisters_of_exec_reset hreset]
      exact resetRegisters_hasResetRegisters hwf
  refine ⟨hreg.ch, hreg.busy, fun i => ?_, fun i => ?_, hreg.claw, ?_, hreg.cmp, hreg.bstate, hreg.settleCount, rfl,
    fun s0 hreset => ?_⟩
  · rw [hreg.pos, position_posInitQ hwf]
  · rw [hreg.duty, mapDuty_toNat hwf, mapTick_cast hwf, position_posInitQ hwf]
  · rw [hreg.duty_claw, clawTick_toNat hwf]
  · rw [eq_resetRegisters_of_exec_reset hreset]
    rfl

/-! ### A log in front of the log -/

/-- The state with older actions put in front of its log. -/
def State.prependLog (s : State) (log : List Action) : State := { s with out := log ++ s.out }

/-- An answer with older actions put in front of the log of its next state, if it has one. -/
def prependLogResult (log : List Action) : Result → Result
  | .next t => .next (t.prependLog log)
  | .fault f => .fault f
  | .refused r => .refused r

@[simp] theorem prependLogResult_next (log : List Action) (t : State) :
    prependLogResult log (.next t) = .next (t.prependLog log) := rfl

@[simp] theorem prependLogResult_refused (log : List Action) (r : Refusal) :
    prependLogResult log (.refused r) = .refused r := rfl

@[simp] theorem State.prependLog_cfg (s : State) (log : List Action) : (s.prependLog log).cfg = s.cfg := rfl
@[simp] theorem State.prependLog_ch (s : State) (log : List Action) : (s.prependLog log).ch = s.ch := rfl
@[simp] theorem State.prependLog_busy (s : State) (log : List Action) : (s.prependLog log).busy = s.busy := rfl
@[simp] theorem State.prependLog_bstate (s : State) (log : List Action) : (s.prependLog log).bstate = s.bstate := rfl

/-! Each shared operation commutes with `prependLog`: `emit`, the only writer of the log, because it appends at the other
end; the others because they leave the log alone or reach it through `emit`. -/

theorem State.prependLog_emit (s : State) (log : List Action) (a : Action) :
    (s.prependLog log).emit a = (s.emit a).prependLog log := by
  simp [State.prependLog, State.emit]

@[simp] theorem State.prependLog_setBusy (s : State) (log : List Action) (b : Bool) :
    (s.prependLog log).setBusy b = (s.setBusy b).prependLog log := rfl

@[simp] theorem State.prependLog_setCh (s : State) (log : List Action) (i : Channel) :
    (s.prependLog log).setCh i = (s.setCh i).prependLog log := rfl

@[simp] theorem State.prependLog_repairIndex (s : State) (log : List Action) :
    (s.prependLog log).repairIndex = s.repairIndex.prependLog log := rfl

@[simp] theorem State.prependLog_trigger (s : State) (log : List Action) (i : Channel) :
    (s.prependLog log).trigger i = (s.trigger i).prependLog log := by
  simp only [State.trigger, State.prependLog_emit, State.prependLog_setBusy]

@[simp] theorem State.prependLog_integrate (s : State) (log : List Action) (i : Channel) (n : Nat) :
    (s.prependLog log).integrate i n = (s.integrate i n).prependLog log := rfl

@[simp] theorem State.prependLog_commit (s : State) (log : List Action) (a : Axis) :
    (s.prependLog log).commit a = (s.commit a).prependLog log :=
  State.prependLog_emit (s.setCmp a (some (s.duty a))) log _

@[simp] theorem State.prependLog_toggle (s : State) (log : List Action) :
    (s.prependLog log).toggle = s.toggle.prependLog log := rfl

@[simp] theorem State.prependLog_release (s : State) (log : List Action) :
    (s.prependLog log).release = s.release.prependLog log := by
  rw [release_eq, release_eq]; rfl

@[simp] theorem State.prependLog_settleTick (s : State) (log : List Action) :
    (s.prependLog log).settleTick = s.settleTick.prependLog log := by
  rw [settleTick_eq, settleTick_eq]; rfl

/-- No operation reads the log, and each appends to it only: with older actions in front of the log it answers alike, with
these actions in front of the next log (10_state R30). -/
theorem exec_prependLog (i : Instr) (s : State) (log : List Action) :
    exec i (s.prependLog log) = prependLogResult log (exec i s) := by
  cases i with
  | nop => rfl
  | reset => rfl
  | start => cases hbusy : s.busy <;> simp [exec, execStart, hbusy]
  | convDone n =>
    by_cases hn : s.cfg.sampleMax < n
    · simp [exec, execConvDone, hn]
    · cases hbusy : s.busy <;> simp [exec, execConvDone, hn, hbusy]
  | pwmOvf => simp [exec, execPwmOvf]
  | poll b =>
    simp only [exec, execPoll, State.prependLog_bstate]
    cases s.bstate <;> cases b <;> simp
  | msTick =>
    simp only [exec, execMsTick, State.prependLog_bstate]
    cases s.bstate <;> simp

/-- Settles O51: any log is that log put in front of an empty one. -/
theorem logIsAppendOnlyAndUnread : Obligations.LogIsAppendOnlyAndUnread := by
  intro i s log
  have hlog : { s with out := log } = State.prependLog { s with out := [] } log := by simp [State.prependLog]
  rw [hlog, exec_prependLog]
  cases exec i { s with out := [] } <;> rfl

end Sys2Proof.Machine

/-! PROOFS. The family of 20_memory.md: which unit writes and reads which register (R63), and the commit's latency (R64). -/

namespace Sys2Proof.Machine

/-! ### The units and their registers -/

/-- The units that own registers: the sequencer, the integrator of each channel, the latch and the commit (20_memory R63). -/
inductive RegUnit where
  | sequencer
  | channel (j : Channel)
  | latch
  | compare

/-- Two states hold the same in the registers of a unit. -/
def Agree : RegUnit → State → State → Prop
  | .sequencer => SameSequencer
  | .channel j => SameChannel j
  | .latch => SameLatch
  | .compare => SameCompare

/-- The operations that may write a unit's registers: those of the unit, and RESET. -/
def writes : Instr → RegUnit → Bool
  | .reset, _ => true
  | .start, .sequencer => true
  | .convDone _, .sequencer => true
  | .convDone _, .channel _ => true
  | .poll _, .latch => true
  | .msTick, .latch => true
  | .pwmOvf, .compare => true
  | _, _ => false

theorem agree_equivalence (u : RegUnit) : Equivalence (Agree u) := by
  cases u with
  | sequencer | channel j =>
    exact ⟨fun _ => ⟨rfl, rfl⟩, fun h => ⟨h.1.symm, h.2.symm⟩, fun h k => ⟨k.1.trans h.1, k.2.trans h.2⟩⟩
  | latch =>
    exact ⟨fun _ => ⟨rfl, rfl, rfl, rfl⟩,
      fun ⟨hclaw, hstate, hsc, hduty⟩ => ⟨hclaw.symm, hstate.symm, hsc.symm, hduty.symm⟩,
      fun ⟨hclaw, hstate, hsc, hduty⟩ ⟨kclaw, kstate, ksc, kduty⟩ =>
        ⟨kclaw.trans hclaw, kstate.trans hstate, ksc.trans hsc, kduty.trans hduty⟩⟩
  | compare => exact ⟨fun _ _ => rfl, fun h a => (h a).symm, fun h k a => (k a).trans (h a)⟩

theorem writes_sequencer_iff {i : Instr} :
    writes i .sequencer = true ↔ i = .reset ∨ i = .start ∨ ∃ n, i = .convDone n := by
  cases i <;> simp [writes]

theorem writes_channel_iff {i : Instr} {j : Channel} :
    writes i (.channel j) = true ↔ i = .reset ∨ ∃ n, i = .convDone n := by
  cases i <;> simp [writes]

theorem writes_latch_iff {i : Instr} :
    writes i .latch = true ↔ i = .reset ∨ (∃ b, i = .poll b) ∨ i = .msTick := by
  cases i <;> simp [writes]

theorem writes_compare_iff {i : Instr} : writes i .compare = true ↔ i = .reset ∨ i = .pwmOvf := by
  cases i <;> simp [writes]

/-! ### An operation keeps the registers it does not write -/

theorem agree_of_same_outside_latch {u : RegUnit} {s t : State} (hu : u ≠ .latch) (hseq : SameSequencer s t)
    (hchan : ∀ j, SameChannel j s t) (hcmp : SameCompare s t) : Agree u s t := by
  cases u with
  | sequencer => exact hseq
  | channel j => exact hchan j
  | latch => exact absurd rfl hu
  | compare => exact hcmp

theorem agree_of_not_writes {i : Instr} {u : RegUnit} {s t : State} (hw : writes i u ≠ true) (h : exec i s = .next t) :
    Agree u s t := by
  have hrefl := (agree_equivalence u).refl s
  cases i with
  | reset => exact absurd rfl hw
  | nop => cases h; exact hrefl
  | start =>
    obtain ⟨-, rfl⟩ | ⟨-, rfl⟩ := execStart_cases h
    · exact hrefl
    · obtain ⟨hchan, hlatch, hcmp, -⟩ := repair_trigger_frame s (repairedChannel s.ch)
      cases u with
      | sequencer => exact absurd rfl hw
      | channel j => exact hchan j
      | latch => exact hlatch
      | compare => exact hcmp
  | convDone n =>
    obtain ⟨-, -, -, -, -, hlatch, hcmp, -⟩ := execConvDone_cases h
    cases u with
    | sequencer | channel j => exact absurd rfl hw
    | latch => exact hlatch
    | compare => exact hcmp
  | pwmOvf =>
    cases h
    obtain ⟨-, hseq, hchan, hlatch, -⟩ := commit_frame s
    cases u with
    | sequencer => exact hseq
    | channel j => exact hchan j
    | latch => exact hlatch
    | compare => exact absurd rfl hw
  | poll b =>
    have hu : u ≠ .latch := fun hu => hw (hu ▸ rfl)
    obtain ⟨-, -, rfl⟩ | ⟨-, -, rfl⟩ | ⟨-, rfl, -⟩ := execPoll_cases h
    · obtain ⟨hseq, hchan, hcmp, -⟩ := toggle_frame s
      exact agree_of_same_outside_latch hu hseq hchan hcmp
    · obtain ⟨hseq, hchan, hcmp, -⟩ := release_frame s
      exact agree_of_same_outside_latch hu hseq hchan hcmp
    · exact hrefl
  | msTick =>
    have hu : u ≠ .latch := fun hu => hw (hu ▸ rfl)
    obtain ⟨-, rfl⟩ | ⟨-, rfl⟩ := execMsTick_cases h
    · obtain ⟨hseq, hchan, hcmp, -⟩ := settleTick_frame s
      exact agree_of_same_outside_latch hu hseq hchan hcmp
    · exact hrefl

/-- Registers that no operation of a run writes are kept by the run. -/
theorem agree_of_execAll_not_writes {u : RegUnit} {is : List Instr} {s t : State} (his : ∀ i ∈ is, writes i u ≠ true)
    (h : execAll is s = .next t) : Agree u s t := by
  induction is generalizing s with
  | nil => cases h; exact (agree_equivalence u).refl _
  | cons i is ih =>
    obtain ⟨hi, his⟩ := List.forall_mem_cons.1 his
    simp only [execAll] at h
    split at h
    next m hm => exact (agree_equivalence u).trans (agree_of_not_writes hi hm) (ih his h)
    next => cases h
    next => cases h

/-- A commit copies every duty-cycle value (42 R125). -/
theorem exec_pwmOvf_cmp (s : State) : ∃ t, exec .pwmOvf s = .next t ∧ ∀ a, t.cmp a = some (s.duty a) :=
  have ⟨hcopy, _⟩ := commit_frame s
  ⟨_, rfl, hcopy⟩

/-- Settles O35: only PWM_OVF and RESET write the compare registers, so a run without them keeps them. -/
theorem commitLatency : Obligations.CommitLatency := by
  intro is s t hovf hreset h
  refine ⟨agree_of_execAll_not_writes (u := .compare) (fun i hi hw => ?_) h, exec_pwmOvf_cmp t⟩
  obtain rfl | rfl := writes_compare_iff.1 hw
  · exact hreset hi
  · exact hovf hi

/-! ### Single writers: what changed names the operation -/

theorem writes_of_not_agree {i : Instr} {u : RegUnit} {s t : State} (h : exec i s = .next t) (hu : ¬ Agree u s t) :
    writes i u = true :=
  not_not.1 fun hw => hu (agree_of_not_writes hw h)

/-- The channel served, as the repair of the index writes it out (40 R90). -/
theorem repairedChannel_val (ch : ChIndex) : (repairedChannel ch).val = if 2 ≤ ch.toNat then 0 else ch.toNat := by
  split_ifs with hge
  · rw [repairedChannel_of_ge hge]; rfl
  · exact repairedChannel_of_lt (by omega)

theorem eq_repairedChannel_of_not_sameChannel {s t : State} {n : Nat} {j : Channel}
    (h : exec (.convDone n) s = .next t) (hj : ¬ SameChannel j s t) : j = repairedChannel s.ch := by
  obtain ⟨-, -, -, -, hother, -⟩ := execConvDone_cases h
  exact not_not.1 fun hne => hj (hother j hne)

/-! ### Own reads: two states that agree on what a unit reads agree on what it then holds -/

section
variable {s s' t t' : State}

/-- RESET reads the configuration only (44 R156). -/
theorem reset_agree (u : RegUnit) (hcfg : s'.cfg = s.cfg) (h : exec .reset s = .next t) (h' : exec .reset s' = .next t') :
    Agree u t t' := by
  rw [eq_resetRegisters_of_exec_reset h, eq_resetRegisters_of_exec_reset h', resetRegisters_eq, resetRegisters_eq, hcfg]
  cases u with
  | sequencer => exact ⟨rfl, rfl⟩
  | channel j => fin_cases j <;> exact ⟨rfl, rfl⟩
  | latch => exact ⟨rfl, rfl, rfl, rfl⟩
  | compare => exact forall_axis.2 ⟨rfl, rfl, rfl⟩

/-- An operation that does not write a unit's registers keeps two states in agreement on them. -/
theorem agree_next_of_not_writes {i : Instr} {u : RegUnit} (hw : writes i u ≠ true) (h : exec i s = .next t)
    (h' : exec i s' = .next t') (hs : Agree u s s') : Agree u t t' :=
  have equiv := agree_equivalence u
  equiv.trans (equiv.symm (agree_of_not_writes hw h)) (equiv.trans hs (agree_of_not_writes hw h'))

/-- The sequencer after START, from its registers before (40 R86). -/
theorem execStart_sequencer (h : exec .start s = .next t) :
    t.ch = (if s.busy then s.ch else BitVec.ofNat 2 (repairedChannel s.ch).val) ∧ t.busy = true := by
  obtain ⟨hbusy, rfl⟩ | ⟨hbusy, rfl⟩ := execStart_cases h <;>
    simp [hbusy, State.trigger, State.repairIndex]

theorem start_sameSequencer (h : exec .start s = .next t) (h' : exec .start s' = .next t') (hs : SameSequencer s s') :
    SameSequencer t t' := by
  obtain ⟨hch, hbusy⟩ := hs
  obtain ⟨htch, htbusy⟩ := execStart_sequencer h
  obtain ⟨htch', htbusy'⟩ := execStart_sequencer h'
  rw [hch, hbusy] at htch'
  exact ⟨htch'.trans htch.symm, htbusy'.trans htbusy.symm⟩

theorem convDone_sameSequencer {n : Nat} (h : exec (.convDone n) s = .next t) (h' : exec (.convDone n) s' = .next t')
    (hs : SameSequencer s s') : SameSequencer t t' := by
  obtain ⟨hch, -⟩ := hs
  obtain ⟨-, -, -, -, -, -, -, -, htbusy, -, htch⟩ := execConvDone_cases h
  obtain ⟨-, -, -, -, -, -, -, -, htbusy', -, htch'⟩ := execConvDone_cases h'
  rw [hch] at htch'
  exact ⟨htch'.trans htch.symm, htbusy'.trans htbusy.symm⟩

theorem convDone_sameChannel {n : Nat} {j : Channel} (hcfg : s'.cfg = s.cfg) (h : exec (.convDone n) s = .next t)
    (h' : exec (.convDone n) s' = .next t') (hseq : SameSequencer s s') (hs : SameChannel j s s') : SameChannel j t t' := by
  obtain ⟨hch, -⟩ := hseq
  obtain ⟨-, -, hpos, hduty, hother, -⟩ := execConvDone_cases h
  obtain ⟨-, -, hpos', hduty', hother', -⟩ := execConvDone_cases h'
  rw [hch] at hpos' hduty' hother'
  by_cases hj : j = repairedChannel s.ch
  · subst hj
    have hsame : t'.pos (repairedChannel s.ch) = t.pos (repairedChannel s.ch) := by rw [hpos', hpos, hcfg, hs.1]
    exact ⟨hsame, by rw [hduty', hduty, hcfg, hsame]⟩
  · have equiv := agree_equivalence (.channel j)
    exact equiv.trans (equiv.symm (hother j hj)) (equiv.trans hs (hother' j hj))

theorem toggle_sameLatch (hcfg : s'.cfg = s.cfg) (hs : SameLatch s s') : SameLatch s.toggle s'.toggle := by
  obtain ⟨hclaw, -, hsc, -⟩ := hs
  simp [State.toggle, SameLatch, hclaw, hsc, hcfg]

theorem release_sameLatch (hcfg : s'.cfg = s.cfg) (hs : SameLatch s s') : SameLatch s.release s'.release := by
  obtain ⟨hclaw, -, -, hduty⟩ := hs
  unfold State.release
  rw [hcfg]
  split_ifs <;> simp [SameLatch, hclaw, hduty, hcfg]

theorem settleTick_sameLatch (hcfg : s'.cfg = s.cfg) (hs : SameLatch s s') : SameLatch s.settleTick s'.settleTick := by
  obtain ⟨hclaw, hstate, hsc, hduty⟩ := hs
  unfold State.settleTick
  rw [hsc]
  split_ifs <;> simp [SameLatch, hclaw, hstate, hduty, hcfg]

theorem poll_sameLatch {b : Bool} (hcfg : s'.cfg = s.cfg) (h : exec (.poll b) s = .next t)
    (h' : exec (.poll b) s' = .next t') (hs : SameLatch s s') : SameLatch t t' := by
  have ⟨_, hstate, _⟩ := hs
  obtain ⟨hidle, rfl, rfl⟩ | ⟨hpressed, rfl, rfl⟩ | ⟨-, rfl, hkept⟩ := execPoll_cases h
  · have ht' : s'.toggle = t' := by simpa [exec, execPoll, hstate, hidle] using h'
    exact ht' ▸ toggle_sameLatch hcfg hs
  · have ht' : s'.release = t' := by simpa [exec, execPoll, hstate, hpressed] using h'
    exact ht' ▸ release_sameLatch hcfg hs
  · have ht' : s' = t' := by
      obtain ⟨hidle, rfl⟩ | ⟨hpressed, rfl⟩ | hsettle := hkept
      · simpa [exec, execPoll, hstate, hidle] using h'
      · simpa [exec, execPoll, hstate, hpressed] using h'
      · simpa [exec, execPoll, hstate, hsettle] using h'
    exact ht' ▸ hs

theorem msTick_sameLatch (hcfg : s'.cfg = s.cfg) (h : exec .msTick s = .next t) (h' : exec .msTick s' = .next t')
    (hs : SameLatch s s') : SameLatch t t' := by
  have ⟨_, hstate, _⟩ := hs
  obtain ⟨hsettle, rfl⟩ | ⟨hkept, rfl⟩ := execMsTick_cases h
  · have ht' : s'.settleTick = t' := by simpa [exec, execMsTick, hstate, hsettle] using h'
    exact ht' ▸ settleTick_sameLatch hcfg hs
  · have ht' : s' = t' := by
      obtain hidle | hpressed := hkept
      · simpa [exec, execMsTick, hstate, hidle] using h'
      · simpa [exec, execMsTick, hstate, hpressed] using h'
    exact ht' ▸ hs

theorem pwmOvf_sameCompare (h : exec .pwmOvf s = .next t) (h' : exec .pwmOvf s' = .next t')
    (hduty : ∀ a, s'.duty a = s.duty a) : SameCompare t t' := by
  obtain ⟨_, hu, hcopy⟩ := exec_pwmOvf_cmp s
  obtain ⟨_, hu', hcopy'⟩ := exec_pwmOvf_cmp s'
  cases hu.symm.trans h
  cases hu'.symm.trans h'
  intro a
  rw [hcopy', hcopy, hduty]

variable {i : Instr}

theorem exec_sameSequencer (hcfg : s'.cfg = s.cfg) (h : exec i s = .next t) (h' : exec i s' = .next t')
    (hs : SameSequencer s s') : SameSequencer t t' := by
  by_cases hw : writes i .sequencer = true
  · obtain rfl | rfl | ⟨n, rfl⟩ := writes_sequencer_iff.1 hw
    · exact reset_agree .sequencer hcfg h h'
    · exact start_sameSequencer h h' hs
    · exact convDone_sameSequencer h h' hs
  · exact agree_next_of_not_writes hw h h' hs

theorem exec_sameChannel {j : Channel} (hcfg : s'.cfg = s.cfg) (h : exec i s = .next t) (h' : exec i s' = .next t')
    (hseq : SameSequencer s s') (hs : SameChannel j s s') : SameChannel j t t' := by
  by_cases hw : writes i (.channel j) = true
  · obtain rfl | ⟨n, rfl⟩ := writes_channel_iff.1 hw
    · exact reset_agree (.channel j) hcfg h h'
    · exact convDone_sameChannel hcfg h h' hseq hs
  · exact agree_next_of_not_writes hw h h' hs

theorem exec_sameLatch (hcfg : s'.cfg = s.cfg) (h : exec i s = .next t) (h' : exec i s' = .next t')
    (hs : SameLatch s s') : SameLatch t t' := by
  by_cases hw : writes i .latch = true
  · obtain rfl | ⟨b, rfl⟩ | rfl := writes_latch_iff.1 hw
    · exact reset_agree .latch hcfg h h'
    · exact poll_sameLatch hcfg h h' hs
    · exact msTick_sameLatch hcfg h h' hs
  · exact agree_next_of_not_writes hw h h' hs

theorem exec_sameCompare (hcfg : s'.cfg = s.cfg) (h : exec i s = .next t) (h' : exec i s' = .next t')
    (hs : SameCompare s s') (hduty : ∀ a, s'.duty a = s.duty a) : SameCompare t t' := by
  by_cases hw : writes i .compare = true
  · obtain rfl | rfl := writes_compare_iff.1 hw
    · exact reset_agree .compare hcfg h h'
    · exact pwmOvf_sameCompare h h' hduty
  · exact agree_next_of_not_writes hw h h' hs

end

/-- Settles O49: a changed register names its writer, and each unit's next registers are read from its own, from the
sequencer's choice of channel, or, in the commit, from the duty-cycle values. -/
theorem singleWriterAndOwnReads : Obligations.SingleWriterAndOwnReads := by
  refine ⟨fun i s t hreset h => ⟨fun hseq => ?_, fun j hj => ?_, fun hlatch => ?_, fun hcmp => ?_⟩,
    fun i s s' t t' hcfg h h' => ⟨exec_sameSequencer hcfg h h', fun _ => exec_sameChannel hcfg h h',
      exec_sameLatch hcfg h h', exec_sameCompare hcfg h h'⟩⟩
  · exact (writes_sequencer_iff.1 (writes_of_not_agree (u := .sequencer) h hseq)).resolve_left hreset
  · obtain ⟨n, rfl⟩ := (writes_channel_iff.1 (writes_of_not_agree (u := .channel j) h hj)).resolve_left hreset
    exact ⟨⟨n, rfl⟩, eq_repairedChannel_of_not_sameChannel h hj ▸ repairedChannel_val s.ch⟩
  · exact (writes_latch_iff.1 (writes_of_not_agree (u := .latch) h hlatch)).resolve_left hreset
  · exact (writes_compare_iff.1 (writes_of_not_agree (u := .compare) h hcmp)).resolve_left hreset

end Sys2Proof.Machine

/-! PROOFS. The family of 30_encoding.md: the decoder, its inverse and the reserved words (R68, R69, R71), and the stored
trace (R75). -/

namespace Sys2Proof

/-! ### The two fields of a word, as numbers (R65) -/

theorem opField_toNat (w : EventWord) : (opField w).toNat = w.toNat / 4096 := by
  have := w.isLt
  simp only [opField, BitVec.extractLsb'_toNat, Nat.shiftRight_eq_div_pow]
  omega

theorem argField_toNat (w : EventWord) : (argField w).toNat = w.toNat % 4096 := rfl

theorem argField_eq_zero_iff {w : EventWord} : argField w = 0 ↔ w.toNat % 4096 = 0 := by
  rw [← BitVec.toNat_inj, argField_toNat]; rfl

theorem argField_upper_eq_zero_iff {w : EventWord} :
    (argField w).extractLsb' 1 11 = 0 ↔ w.toNat % 4096 / 2 = 0 := by
  rw [← BitVec.toNat_inj, BitVec.extractLsb'_toNat, argField_toNat, Nat.shiftRight_eq_div_pow]
  simp only [BitVec.ofNat_eq_ofNat, BitVec.toNat_ofNat]
  omega

theorem argField_getLsbD_zero (w : EventWord) : (argField w).getLsbD 0 = decide (w.toNat % 4096 % 2 = 1) := by
  rw [BitVec.getLsbD, argField_toNat, Nat.testBit_zero]

theorem eventWord_toNat (op : BitVec 4) (arg : BitVec 12) :
    (eventWord op arg).toNat = op.toNat * 4096 + arg.toNat := by
  rw [eventWord, BitVec.toNat_append, ← Nat.shiftLeft_add_eq_or_of_lt arg.isLt, Nat.shiftLeft_eq]

/-! ### The decoder is the rule's pseudocode (R71) -/

/-- The pseudocode of 30_encoding R71 on `op = w[15:12]` and `arg = w[11:0]`, with `none` for `reserved`. -/
def decodeFields (c : Config) (op arg : Nat) : Option Instr :=
  if op = 0x0 ∧ arg = 0 then some .nop
  else if op = 0x1 ∧ arg = 0 then some .start
  else if op = 0x2 ∧ arg ≤ c.sampleMax then some (.convDone arg)
  else if op = 0x3 ∧ arg = 0 then some .pwmOvf
  else if op = 0x4 ∧ arg / 2 = 0 then some (.poll (arg % 2 = 1))
  else if op = 0x5 ∧ arg = 0 then some .msTick
  else if op = 0xF ∧ arg = 0 then some .reset
  else none

theorem decodeZ_toOption (w : EventWord) (i : Instr) :
    (decodeZ w i).toOption = if w.toNat % 4096 = 0 then some i else none := by
  simp only [decodeZ, apply_ite Except.toOption, argField_eq_zero_iff]; rfl

theorem decodeS_toOption (c : Config) (w : EventWord) :
    (decodeS c w).toOption = if w.toNat % 4096 ≤ c.sampleMax then some (.convDone (w.toNat % 4096)) else none := by
  rw [decodeS, apply_ite Except.toOption]; rfl

theorem decodeB_toOption (w : EventWord) :
    (decodeB w).toOption = if w.toNat % 4096 / 2 = 0 then some (.poll (w.toNat % 4096 % 2 = 1)) else none := by
  simp only [decodeB, apply_ite Except.toOption, argField_upper_eq_zero_iff, argField_getLsbD_zero]; rfl

theorem decode_toOption (c : Config) (w : EventWord) :
    (decode c w).toOption = decodeFields c (w.toNat / 4096) (w.toNat % 4096) := by
  rw [← opField_toNat]
  unfold decode
  generalize (opField w).toNat = op
  split
  case h_8 => simp_all [decodeFields, Except.toOption]
  all_goals simp [decodeFields, decodeZ_toOption, decodeS_toOption, decodeB_toOption]

theorem decodeFields_eq_none_iff {c : Config} {op arg : Nat} (hop : op < 16) :
    decodeFields c op arg = none ↔
      (0x6 ≤ op ∧ op ≤ 0xE) ∨ ((op = 0x0 ∨ op = 0x1 ∨ op = 0x3 ∨ op = 0x5 ∨ op = 0xF) ∧ arg ≠ 0) ∨
      (op = 0x2 ∧ c.sampleMax < arg) ∨ (op = 0x4 ∧ arg / 2 ≠ 0) := by
  simp only [decodeFields, ite_eq_iff, reduceCtorEq, and_false, false_or, and_true]
  omega

/-! ### The operation a word spells -/

/-- The operand of an operation, as the number in the `arg` field of its word (30_encoding R67). -/
def Instr.operand : Instr → Nat
  | .convDone s => s
  | .poll b => b.toNat
  | _ => 0

theorem Instr.operand_lt {c : Config} (hc : c.wf = true) {i : Instr} (hi : i.wf c = true) : i.operand < 4096 := by
  cases i with
  | convDone s =>
    have hs : s ≤ c.sampleMax := of_decide_eq_true hi
    exact Nat.lt_succ_of_le (hs.trans (Config.sampleMax_le hc))
  | poll b => cases b <;> decide
  | _ => decide

theorem encode_eq (i : Instr) : encode i = eventWord i.opcode (BitVec.ofNat 12 i.operand) := by
  cases i with
  | poll b => cases b <;> rfl
  | _ => rfl

theorem encode_toNat {i : Instr} (h : i.operand < 4096) : (encode i).toNat = i.opcode.toNat * 4096 + i.operand := by
  rw [encode_eq, eventWord_toNat, BitVec.toNat_ofNat, Nat.mod_eq_of_lt h]

theorem decodeFields_opcode_operand {c : Config} {i : Instr} (hi : i.wf c = true) :
    decodeFields c i.opcode.toNat i.operand = some i := by
  cases i with
  | convDone s => exact if_pos (⟨rfl, of_decide_eq_true hi⟩ : 2 = 2 ∧ s ≤ c.sampleMax)
  | poll b => cases b <;> rfl
  | _ => rfl

theorem eq_of_decodeFields {c : Config} {op arg : Nat} {i : Instr} (h : decodeFields c op arg = some i) :
    i.wf c = true ∧ op = i.opcode.toNat ∧ arg = i.operand := by
  unfold decodeFields at h
  split_ifs at h with hnop hstart hconv hovf hpoll hms hreset <;> cases h
  · exact ⟨rfl, hnop⟩
  · exact ⟨rfl, hstart⟩
  · exact ⟨decide_eq_true hconv.2, hconv.1, rfl⟩
  · exact ⟨rfl, hovf⟩
  · obtain ⟨hop, harg⟩ := hpoll
    refine ⟨rfl, hop, ?_⟩
    obtain rfl | rfl : arg = 0 ∨ arg = 1 := by omega
    · rfl
    · rfl
  · exact ⟨rfl, hms⟩
  · exact ⟨rfl, hreset⟩

/-- A word spells an operation exactly when its fields hold the operation's opcode and operand. -/
theorem decode_eq_ok_iff {c : Config} {w : EventWord} {i : Instr} :
    decode c w = .ok i ↔ i.wf c = true ∧ w.toNat / 4096 = i.opcode.toNat ∧ w.toNat % 4096 = i.operand := by
  have hsome : decode c w = .ok i ↔ (decode c w).toOption = some i := by
    cases decode c w <;> simp [Except.toOption]
  rw [hsome, decode_toOption]
  refine ⟨eq_of_decodeFields, fun ⟨hi, hop, harg⟩ => ?_⟩
  rw [hop, harg, decodeFields_opcode_operand hi]

/-- Under a well-formed configuration the words of the well-formed operations are exactly the non-reserved words. -/
theorem decode_eq_ok_iff_encode {c : Config} (hc : c.wf = true) {w : EventWord} {i : Instr} :
    decode c w = .ok i ↔ i.wf c = true ∧ encode i = w := by
  rw [decode_eq_ok_iff, and_congr_right_iff]
  intro hi
  have hlt := Instr.operand_lt hc hi
  rw [← BitVec.toNat_inj, encode_toNat hlt]
  omega

theorem decode_eq_error_iff {c : Config} {w : EventWord} :
    (∃ e, decode c w = .error e) ↔ decodeFields c (w.toNat / 4096) (w.toNat % 4096) = none := by
  rw [← decode_toOption]
  cases decode c w <;> simp [Except.toOption]

/-- Settles O3: the decoder is the pseudocode, which answers an operation exactly on that operation's own word. -/
theorem decodeAndEncodeAreInverse : Obligations.DecodeAndEncodeAreInverse := by
  intro c hc
  refine ⟨?_, fun w i h => ((decode_eq_ok_iff_encode hc).1 h).2, fun i hi => (decode_eq_ok_iff_encode hc).2 ⟨hi, rfl⟩⟩
  rintro w op arg rfl rfl
  exact decode_toOption c w

/-! ### Match and mask (R68) -/

/-- A word masked down to all but its low `k` bits is `v`, itself a multiple of `2^k`, exactly when it is one of the `2^k`
words from `v` on. -/
theorem and_not_lowMask_eq_iff {w v : EventWord} {k : Nat} (hv : 2 ^ k ∣ v.toNat) :
    w &&& ~~~(BitVec.ofNat 16 (2 ^ k - 1)) = v ↔ v.toNat ≤ w.toNat ∧ w.toNat < v.toNat + 2 ^ k := by
  have hmask : w &&& ~~~(BitVec.ofNat 16 (2 ^ k - 1)) = w >>> k <<< k := by
    ext j hj
    have hbit : (BitVec.ofNat 16 (2 ^ k - 1))[j] = decide (j < k) := by
      rw [← BitVec.getLsbD_eq_getElem hj, BitVec.getLsbD_ofNat, Nat.testBit_two_pow_sub_one, decide_eq_true hj, Bool.true_and]
    by_cases hjk : j < k
    · simp [hbit, hjk]
    · simp [hbit, hjk, Nat.add_sub_cancel' (not_lt.1 hjk), BitVec.getLsbD_eq_getElem hj]
  have hlt : w.toNat / 2 ^ k * 2 ^ k < 2 ^ 16 := (Nat.div_mul_le_self _ _).trans_lt w.isLt
  obtain ⟨q, hq⟩ := hv
  rw [hmask, ← BitVec.toNat_inj, BitVec.toNat_shiftLeft, BitVec.toNat_ushiftRight, Nat.shiftRight_eq_div_pow,
    Nat.shiftLeft_eq, Nat.mod_eq_of_lt hlt, hq, mul_comm, Nat.mul_right_inj (by positivity),
    Nat.div_eq_iff (by positivity), mul_comm q, Nat.le_sub_one_iff_lt (by positivity)]

theorem not_or_and_not (l m : EventWord) : ~~~l ||| (l &&& ~~~m) = ~~~(m &&& l) := by
  ext j hj
  simp only [BitVec.getElem_or, BitVec.getElem_and, BitVec.getElem_not]
  cases l[j] <;> simp

/-- The mask of the CONV_DONE row leaves out just the bits of the sample. -/
theorem convDoneMask_eq {c : Config} (hc : c.wf = true) :
    (0xF000 ||| (0x0FFF &&& ~~~(BitVec.ofNat 16 c.sampleMax)) : EventWord) = ~~~(BitVec.ofNat 16 c.sampleMax) := by
  have hlow : BitVec.ofNat 16 c.sampleMax &&& 0x0FFF = BitVec.ofNat 16 c.sampleMax := by
    have hle := Config.sampleMax_le hc
    rw [← BitVec.toNat_inj, BitVec.toNat_and]
    exact (Nat.and_two_pow_sub_one_eq_mod _ 12).trans (Nat.mod_eq_of_lt (by simp; omega))
  calc (0xF000 ||| (0x0FFF &&& ~~~(BitVec.ofNat 16 c.sampleMax)) : EventWord)
      = ~~~(BitVec.ofNat 16 c.sampleMax &&& 0x0FFF) := not_or_and_not 0x0FFF _
    _ = ~~~(BitVec.ofNat 16 c.sampleMax) := by rw [hlow]

theorem Config.sampleMax_succ (c : Config) : c.sampleMax + 1 = 2 ^ c.sw := Nat.sub_add_cancel Nat.one_le_two_pow

theorem decode_convDone_iff {c : Config} (hc : c.wf = true) {w : EventWord} {s : Nat} :
    decode c w = .ok (.convDone s) ↔
      w &&& (0xF000 ||| (0x0FFF &&& ~~~(BitVec.ofNat 16 c.sampleMax))) = 0x2000 ∧ s = (w &&& 0x0FFF).toNat := by
  have hmask : w &&& ~~~(BitVec.ofNat 16 c.sampleMax) = 0x2000 ↔ 0x2000 ≤ w.toNat ∧ w.toNat < 0x2000 + 2 ^ c.sw :=
    and_not_lowMask_eq_iff (v := 0x2000) (pow_dvd_pow 2 ((Config.wf_lines hc).1.2.trans (by decide : 12 ≤ 13)))
  have harg : (w &&& 0x0FFF).toNat = w.toNat % 4096 := Nat.and_two_pow_sub_one_eq_mod w.toNat 12
  have hmax := Config.sampleMax_le hc
  rw [convDoneMask_eq hc, hmask, harg, ← c.sampleMax_succ, decode_eq_ok_iff]
  simp only [Instr.wf, Instr.opcode, Instr.operand, decide_eq_true_eq, BitVec.reduceToNat]
  omega

theorem decode_poll_iff {c : Config} {w : EventWord} {b : Bool} :
    decode c w = .ok (.poll b) ↔ w &&& 0xFFFE = 0x4000 ∧ b = w.getLsbD 0 := by
  have hmask : w &&& 0xFFFE = 0x4000 ↔ 0x4000 ≤ w.toNat ∧ w.toNat < 0x4000 + 2 ^ 1 :=
    and_not_lowMask_eq_iff (v := 0x4000) (k := 1) (by decide)
  have hbit : b = decide (w.toNat % 2 = 1) ↔ b.toNat = w.toNat % 2 := by cases b <;> simp <;> omega
  have hlt := b.toNat_lt
  rw [hmask, decode_eq_ok_iff, BitVec.getLsbD, Nat.testBit_zero, hbit]
  simp only [Instr.wf, Instr.opcode, Instr.operand, BitVec.reduceToNat, true_and]
  omega

/-- A row without operand bits has the mask of all ones, so its one word is its match. -/
theorem decode_eq_ok_iff_and_allOnes {c : Config} (hc : c.wf = true) {w : EventWord} {i : Instr} (hi : i.wf c = true) :
    decode c w = .ok i ↔ w &&& 0xFFFF = encode i := by
  have hones : w &&& 0xFFFF = w := BitVec.and_allOnes
  rw [hones, decode_eq_ok_iff_encode hc, eq_comm (a := w), and_iff_right hi]

/-- Settles O2: each row's mask leaves out the bits of its operand, so the masked word is the match on the row's words. -/
theorem matchAndMaskOfEveryRow : Obligations.MatchAndMaskOfEveryRow := by
  intro c hc w
  have hrow {i : Instr} (hi : i.wf c = true) : decode c w = .ok i ↔ w &&& 0xFFFF = encode i :=
    decode_eq_ok_iff_and_allOnes hc hi
  exact ⟨hrow rfl, hrow rfl, fun s => decode_convDone_iff hc, hrow rfl, fun b => decode_poll_iff, hrow rfl, hrow rfl, rfl⟩

/-! ### Stored traces (R75) -/

theorem wordBytes_eq (w : EventWord) :
    wordBytes w = [BitVec.ofNat 8 (w.toNat % 256), BitVec.ofNat 8 (w.toNat / 256)] := by
  have hlow : BitVec.ofNat 8 (w.toNat % 256) = BitVec.ofNat 8 w.toNat := by simp [← BitVec.toNat_inj]
  rw [wordBytes, BitVec.extractLsb', BitVec.extractLsb', Nat.shiftRight_zero, Nat.shiftRight_eq_div_pow, hlow]

theorem bytesToWords_flatMap_wordBytes (ws : List EventWord) : bytesToWords (ws.flatMap wordBytes) = some ws := by
  induction ws with
  | nil => rfl
  | cons w ws ih =>
    have hw : w.extractLsb' 8 8 ++ w.extractLsb' 0 8 = w := BitVec.extractLsb'_append_extractLsb'
    simp [wordBytes, bytesToWords, ih, hw]

theorem bytesToWords_eq_none_of_odd {bytes : List Byte} (h : bytes.length % 2 = 1) : bytesToWords bytes = none := by
  induction bytes using bytesToWords.induct with
  | case1 => simp at h
  | case2 => rfl
  | case3 lo hi rest ih =>
    have hrest : rest.length % 2 = 1 := by rw [List.length_cons, List.length_cons] at h; omega
    rw [bytesToWords, ih hrest, Option.map_none]

theorem decodeTrace_flatMap_wordBytes (c : Config) (ws : List EventWord) :
    decodeTrace c (ws.flatMap wordBytes) = decodeAll c ws := by
  rw [decodeTrace, bytesToWords_flatMap_wordBytes]

theorem encodeTrace_eq_flatMap (is : List Instr) : encodeTrace is = (is.map encode).flatMap wordBytes := by
  induction is with
  | nil => rfl
  | cons i is ih => rw [encodeTrace, ih]; rfl

theorem decodeAll_map_encode {c : Config} (hc : c.wf = true) {is : List Instr} (his : ∀ i ∈ is, i.wf c = true) :
    decodeAll c (is.map encode) = .ok is := by
  induction is with
  | nil => rfl
  | cons i is ih =>
    obtain ⟨hi, his⟩ := List.forall_mem_cons.1 his
    rw [List.map_cons, decodeAll, (decode_eq_ok_iff_encode hc).2 ⟨hi, rfl⟩, ih his]

/-- Settles O6: bytes read back as the words they came from, and these as the operations they encode. -/
theorem storedTraceIsLittleEndianWords : Obligations.StoredTraceIsLittleEndianWords := by
  refine ⟨fun i is => ?_, fun c hc is his => ?_, fun c bytes hodd => ?_, rfl⟩
  · rw [encodeTrace, wordBytes_eq]; rfl
  · rw [encodeTrace_eq_flatMap, decodeTrace_flatMap_wordBytes, decodeAll_map_encode hc his]
  · rw [decodeTrace, bytesToWords_eq_none_of_odd hodd]

/-! ### Reserved words (R69) -/

theorem decodeAll_error_of_mem {c : Config} {ws : List EventWord} {w : EventWord} (hw : w ∈ ws)
    (he : ∃ e, decode c w = .error e) : ∃ e, decodeAll c ws = .error e := by
  induction ws with
  | nil => cases hw
  | cons v ws ih =>
    rw [decodeAll]
    cases hv : decode c v with
    | error e => exact ⟨e, rfl⟩
    | ok i =>
      have hws : w ∈ ws := (List.mem_cons.1 hw).resolve_left fun h => by simp [h, hv] at he
      obtain ⟨e, hall⟩ := ih hws
      exact ⟨e, by rw [hall]⟩

end Sys2Proof

namespace Sys2Proof.Machine

/-- A step on a stored trace that is no trace is refused, whatever the index. -/
theorem step_of_decodeTrace_error {s : State} {e : DecodeError} (hwf : s.cfg.wf = true)
    (h : decodeTrace s.cfg s.trace = .error e) : step s = .refused (.badTrace e) := by
  simp [step, fetch, hwf, h]

/-- Settles O5: the reserved words are those the pseudocode answers nothing for, and one of them refuses the whole trace. -/
theorem reservedWordsRefusedWhole : Obligations.ReservedWordsRefusedWhole := by
  refine ⟨?_, fun c => ⟨rfl, _, rfl⟩, fun s ws w hwf htrace hw hres => ?_⟩
  · rintro c - w op arg rfl rfl
    have hop : w.toNat / 4096 < 16 := by have := w.isLt; omega
    exact decode_eq_error_iff.trans (decodeFields_eq_none_iff hop)
  · obtain ⟨e, he⟩ := decodeAll_error_of_mem hw hres
    refine ⟨e, step_of_decodeTrace_error hwf ?_⟩
    rw [htrace, decodeTrace_flatMap_wordBytes, he]

end Sys2Proof.Machine

/-! PROOFS. The family of 40_adc_sequencer.md: START (R86), CONV_DONE (R87) with the integrator's register form (41 R110), and
the repair of the index (R90). -/

namespace Sys2Proof.Machine

/-! ### The register form computes the rational form: INTEGRATE -/

/-- A strictly increasing map carries the clamp over. -/
theorem map_clamp {α β : Type} [LinearOrder α] [LinearOrder β] {f : α → β} (hf : StrictMono f) (v lo hi : α) :
    f (clamp v lo hi) = clamp (f v) (f lo) (f hi) := by
  simp only [clamp, hf.lt_iff_lt, apply_ite f]

/-- The slope constants `KU` and `KD` are exact: `Q` times the rate per sample, as `L` is a multiple of both spans. -/
theorem slope_div_scale {c : Config} {span : Nat} (hspan : 0 < span) (hdvd : span ∣ c.spanLcm) (hlcm : 0 < c.spanLcm) :
    ((c.rateNum * (c.spanLcm / span) : Nat) : ℚ) / c.scale = c.rateMax / span := by
  have hspan' : (span : ℚ) ≠ 0 := by exact_mod_cast hspan.ne'
  have hlcm' : (c.spanLcm : ℚ) ≠ 0 := by exact_mod_cast hlcm.ne'
  rw [Config.scale, Config.rateMax, Nat.cast_mul, Nat.cast_mul, Nat.cast_div hdvd hspan']
  field_simp

/-- The register's step is `Q` times the rate function, for every sample (41 R101, R110). -/
theorem deltaQ_div_scale {c : Config} (h : c.wf = true) (n : Nat) : (deltaQ c n : ℚ) / c.scale = delta c n := by
  have hup := Config.upSpan_pos h
  have hdn := Config.dnSpan_pos h
  have hlcm : 0 < c.spanLcm := Nat.lcm_pos hup hdn
  have hku : (c.ku : ℚ) / c.scale = c.rateMax / c.upSpan := slope_div_scale hup (Nat.dvd_lcm_left _ _) hlcm
  have hkd : (c.kd : ℚ) / c.scale = c.rateMax / c.dnSpan := slope_div_scale hdn (Nat.dvd_lcm_right _ _) hlcm
  have hspan : (c.upSpan : ℚ) = c.sampleMax - c.tHigh := by
    obtain ⟨-, ⟨-, -, hlt⟩, -⟩ := Config.wf_lines h
    exact Nat.cast_sub hlt.le
  unfold deltaQ delta
  split_ifs with hhigh hlow
  · rw [Int.cast_natCast, Nat.cast_mul, mul_div_right_comm, hku, hspan, Nat.cast_sub hhigh.le, div_mul_eq_mul_div]
  · rw [Int.cast_neg, Int.cast_natCast, Nat.cast_mul, neg_div, mul_div_right_comm, hkd, Nat.cast_sub hlow.le, Config.dnSpan]
    ring
  · simp

/-- INTEGRATE on the register is INTEGRATE on the position it stands for, from any content (41 R107, R110). -/
theorem position_integrateQ {c : Config} (h : c.wf = true) (p n : Nat) :
    position c (integrateQ c p n) = integrateRat c (position c p) n := by
  have hscale : (0 : ℚ) < c.scale := by exact_mod_cast Config.scale_pos h
  have hmono : StrictMono fun z : ℤ => (z : ℚ) / c.scale := fun _ _ hlt =>
    div_lt_div_of_pos_right (Int.cast_lt.2 hlt) hscale
  calc position c (integrateQ c p n)
      = ((clamp ((p : ℤ) + deltaQ c n) 0 c.pmaxq : ℤ) : ℚ) / c.scale := by
        rw [← integrateQ_cast, Int.cast_natCast, position]
    _ = clamp ((((p : ℤ) + deltaQ c n : ℤ) : ℚ) / c.scale) ((0 : ℤ) / c.scale) ((c.pmaxq : ℤ) / c.scale) :=
        map_clamp hmono _ _ _
    _ = integrateRat c (position c p) n := by
        have hmax : ((c.pmaxq : ℤ) : ℚ) / c.scale = c.positionMax := by
          rw [Int.cast_natCast, Config.pmaxq, Nat.cast_mul, mul_div_cancel_right₀ _ hscale.ne']
        rw [hmax, Int.cast_add, Int.cast_natCast, add_div, deltaQ_div_scale h, Int.cast_zero, zero_div, integrateRat, position]

/-! ### CONV_DONE (R87) -/

theorem eq_repairedChannel {ch : ChIndex} {i : Channel} (hi : i.val = if 2 ≤ ch.toNat then 0 else ch.toNat) :
    i = repairedChannel ch :=
  Fin.ext (hi.trans (repairedChannel_val ch).symm)

theorem encode_convDone_toNat {c : Config} {n : Nat} (h : c.wf = true) (hn : n ≤ c.sampleMax) :
    (encode (.convDone n)).toNat = 0x2000 + n := by
  have hlt : (Instr.convDone n).operand < 4096 := Instr.operand_lt h (decide_eq_true hn)
  rw [encode_toNat hlt]
  simp only [Instr.opcode, Instr.operand, BitVec.reduceToNat]

theorem exec_convDone_of_not_busy {s : State} {n : Nat} (hn : n ≤ s.cfg.sampleMax) (hbusy : s.busy = false) :
    exec (.convDone n) s = .refused .convDoneIdle := by
  simp [exec, execConvDone, hbusy, Nat.not_lt.2 hn]

/-- Settles O18: the channel served is the repaired index, and its register form is exact in both formulas. -/
theorem convDoneOperation : Obligations.ConvDoneOperation := by
  intro s n i hwf hn hi
  obtain rfl : i = repairedChannel s.ch := eq_repairedChannel hi
  refine ⟨encode_convDone_toNat hwf hn, exec_convDone_of_not_busy hn, fun hbusy => ?_⟩
  obtain ⟨t, ht⟩ := execConvDone_next hbusy hn
  obtain ⟨-, -, hpos, hduty, hother, hlatch, hcmp, hset, htbusy, hout, hch⟩ := execConvDone_cases ht
  refine ⟨t, ht, ?_, ?_, ?_, htbusy, hout, hother, hlatch, hcmp, hset⟩
  · rw [hpos, position_integrateQ hwf]
  · rw [hduty, mapDuty_toNat hwf, mapTick_cast hwf]
  · rw [hch, ← nextChannel_val]
    exact setCh_toNat s _

/-! ### START (R86) -/

theorem exec_start_of_busy {s : State} (h : s.busy = true) : exec .start s = .next s := by
  simp [exec, execStart, h]

theorem exec_start_of_not_busy {s : State} (h : s.busy = false) :
    exec .start s = .next (s.repairIndex.trigger (repairedChannel s.ch)) := by
  simp [exec, execStart, h]

/-- What the repair leaves in the index register (R90). -/
theorem repairIndex_ch (s : State) : s.repairIndex.ch = if 2 ≤ s.ch.toNat then 0 else s.ch := by
  rw [State.repairIndex, State.setCh_ch, repairedChannel_val]
  split_ifs
  · rfl
  · rw [BitVec.ofNat_toNat, BitVec.setWidth_eq]

/-- Settles O17: outside the repaired index, the log and `busy`, the state is the same record. -/
theorem startOperation : Obligations.StartOperation := by
  refine ⟨rfl, fun s => exec_start_of_busy, fun s i hbusy hi => ?_, _, rfl, rfl, rfl, rfl, rfl⟩
  obtain rfl : i = repairedChannel s.ch := eq_repairedChannel hi
  rw [exec_start_of_not_busy hbusy, trigger_eq, ← repairIndex_ch]
  rfl

/-! ### The repair of the index (R90) -/

section
variable {s : State} {k : ChIndex} (h : repairedChannel k = repairedChannel s.ch)
include h

/-- After the repair nothing is left of the register's content but the channel it was repaired to. -/
theorem repairIndex_congr : State.repairIndex { s with ch := k } = s.repairIndex := by
  simp only [State.repairIndex, State.setCh, h]

theorem exec_start_congr (hbusy : s.busy = false) : exec .start { s with ch := k } = exec .start s := by
  rw [exec_start_of_not_busy (s := { s with ch := k }) hbusy, exec_start_of_not_busy hbusy, repairIndex_congr h, h]

theorem exec_convDone_congr (n : Nat) : exec (.convDone n) { s with ch := k } = exec (.convDone n) s := by
  have hrepair : (State.setBusy { s with ch := k } false).repairIndex = (s.setBusy false).repairIndex :=
    repairIndex_congr (s := s.setBusy false) h
  simp only [exec, execConvDone, hrepair, h]

end

/-- The index register after an operation is as it was or holds a channel number. -/
theorem exec_ch_cases {i : Instr} {s t : State} (h : exec i s = .next t) :
    t.ch = s.ch ∨ ∃ j : Channel, t.ch = BitVec.ofNat 2 j.val := by
  by_cases hw : writes i .sequencer = true
  · obtain rfl | rfl | ⟨n, rfl⟩ := writes_sequencer_iff.1 hw
    · rw [eq_resetRegisters_of_exec_reset h]
      exact .inr ⟨0, rfl⟩
    · obtain ⟨-, rfl⟩ | ⟨-, rfl⟩ := execStart_cases h
      · exact .inl rfl
      · exact .inr ⟨_, rfl⟩
    · obtain ⟨-, -, -, -, -, -, -, -, -, -, hch⟩ := execConvDone_cases h
      exact .inr ⟨_, hch⟩
  · exact .inl (agree_of_not_writes hw h).1

/-- Settles O20: an index out of range is repaired to the channel that 0 is repaired to, and only channel numbers are
written. -/
theorem indexRepairServesChannelZero : Obligations.IndexRepairServesChannelZero := by
  have hzero {s : State} (hge : 2 ≤ s.ch.toNat) : repairedChannel 0 = repairedChannel s.ch :=
    (repairedChannel_of_ge hge).symm
  refine ⟨fun s hge hbusy => (exec_start_congr (hzero hge) hbusy).symm,
    fun s n hge _ => (exec_convDone_congr (hzero hge) n).symm, fun i s t h hge => ?_⟩
  obtain hkept | ⟨j, hj⟩ := exec_ch_cases h
  · exact hkept
  · have hval : t.ch.toNat = j.val := hj ▸ setCh_toNat s j
    omega

end Sys2Proof.Machine

/-! PROOFS. The family of 41_position_integrator.md: the rate case by case (R102 to R104) and the step (R105). -/

namespace Sys2Proof.Machine

/-! ### The rate function, case by case -/

/-- Up (41 R102). -/
theorem delta_of_gt {c : Config} {n : Nat} (h : c.tHigh < n) :
    delta c n = c.rateMax * ((n - c.tHigh) / (c.sampleMax - c.tHigh)) := by
  rw [delta, if_pos h, mul_div_assoc]

/-- Down (41 R103): the cases exclude each other because `T_LOW <= T_HIGH` (00_scope R11 line 3). -/
theorem delta_of_lt {c : Config} (hwf : c.wf = true) {n : Nat} (h : n < c.tLow) :
    delta c n = c.rateMax * ((n - c.tLow) / c.tLow) := by
  obtain ⟨-, ⟨-, hle, -⟩, -⟩ := Config.wf_lines hwf
  rw [delta, if_neg (h.trans_le hle).le.not_gt, if_pos h, mul_div_assoc]

/-- The dead zone, both thresholds included (41 R104). -/
theorem delta_of_deadZone {c : Config} {n : Nat} (hlow : c.tLow ≤ n) (hhigh : n ≤ c.tHigh) : delta c n = 0 := by
  rw [delta, if_neg hhigh.not_gt, if_neg hlow.not_gt]

/-- Settles O24: the register's step is INTEGRATE on the position it stands for, and its rate is the formula of the sample's
case. -/
theorem integratorMatchesRationalFormulas : Obligations.IntegratorMatchesRationalFormulas := by
  intro c p n hwf _
  rw [position_integrateQ hwf, integrateRat]
  refine ⟨fun hhigh => ?_, fun hlow => ?_, fun hlow hhigh => ?_⟩
  · rw [delta_of_gt hhigh, Config.rateMax]
  · rw [delta_of_lt hwf hlow, Config.rateMax]
  · rw [delta_of_deadZone hlow hhigh, add_zero]

end Sys2Proof.Machine

/-! PROOFS. The family of 42_pwm_mapper_commit.md: MAP as a duty-cycle value (R120 to R122) and the commit (R125). -/

namespace Sys2Proof.Machine

/-- Settles O30: the bounds fit the register, so the value written is the register form whole, and that form is the rational
MAP at the position the register stands for. -/
theorem mapperMatchesFloorFormula : Obligations.MapperMatchesFloorFormula := by
  intro c i p hwf
  rw [mapDuty_toNat hwf, mapTick_cast hwf, mapRat, position]

/-- PWM_OVF is the commits of the three axes, in axis order (42 R125). -/
theorem exec_pwmOvf (s : State) : exec .pwmOvf s = .next (((s.commit 0).commit 1).commit 2) := rfl

/-- Settles O33: the operation asks nothing of the state, and a commit touches no duty-cycle register that a later one
reads. -/
theorem pwmOvfOperation : Obligations.PwmOvfOperation := by
  refine ⟨rfl, fun s => ?_⟩
  rw [exec_pwmOvf, commit_eq]

end Sys2Proof.Machine

/-! PROOFS. The family of 43_input_latch.md: POLL and MS_TICK state by state (R136 to R142), the stuck input (R140) and the
length of the settle interval (R143). -/

namespace Sys2Proof.Machine

/-! ### POLL and MS_TICK in each state of the latch -/

section
variable {s : State}

theorem exec_poll_of_idle (h : s.bstate = .idle) (b : Bool) :
    exec (.poll b) s = .next (if b then s.toggle else s) := by
  simp only [exec, execPoll, h]

theorem exec_poll_of_pressed (h : s.bstate = .pressed) (b : Bool) :
    exec (.poll b) s = .next (if b then s else s.release) := by
  simp only [exec, execPoll, h]

theorem exec_poll_of_settle (h : s.bstate = .settle) (b : Bool) : exec (.poll b) s = .next s := by
  simp only [exec, execPoll, h]

theorem exec_poll_of_invalid (h : s.bstate = .invalid) (b : Bool) : exec (.poll b) s = .refused .bstateInvalid := by
  simp only [exec, execPoll, h]

theorem exec_msTick_of_settle (h : s.bstate = .settle) : exec .msTick s = .next s.settleTick := by
  simp only [exec, execMsTick, h]

theorem exec_msTick_of_idle (h : s.bstate = .idle) : exec .msTick s = .next s := by
  simp only [exec, execMsTick, h]

theorem exec_msTick_of_pressed (h : s.bstate = .pressed) : exec .msTick s = .next s := by
  simp only [exec, execMsTick, h]

theorem exec_msTick_of_invalid (h : s.bstate = .invalid) : exec .msTick s = .refused .bstateInvalid := by
  simp only [exec, execMsTick, h]

/-- The last tick of the interval, and a count of 0 like it, leaves `SETTLE` (43 R142). -/
theorem settleTick_of_le_one (h : s.settleCount ≤ 1) : s.settleTick = (s.setSc 0).setBState .idle := by
  rw [State.settleTick, if_pos h]

/-- A tick before the last one only counts (43 R142). -/
theorem settleTick_of_one_lt (h : 1 < s.settleCount) : s.settleTick = s.setSc (s.settleCount - 1) := by
  rw [State.settleTick, if_neg h.not_ge]

end

/-- Settles O38: the state of the latch chooses the row, and the toggle and the release are the records of the table. -/
theorem pollOperation : Obligations.PollOperation := by
  refine ⟨fun b => by cases b <;> rfl, fun c => (BitVec.toNat_ofNat _ _).trans (Nat.mod_eq_of_lt (Config.settleMs_lt c)),
    fun s => ⟨fun hidle => exec_poll_of_idle hidle false, fun hidle hclaw => ?_, fun hidle hclaw => ?_,
      fun hpressed => exec_poll_of_pressed hpressed true, fun hpressed hms => ?_, fun hpressed hms => ?_,
      fun hsettle => exec_poll_of_settle hsettle⟩⟩
  · rw [exec_poll_of_idle hidle, if_pos rfl, toggle_eq, hclaw]
    rfl
  · rw [exec_poll_of_idle hidle, if_pos rfl, toggle_eq, hclaw]
    rfl
  · rw [exec_poll_of_pressed hpressed, if_neg Bool.false_ne_true, release_eq, if_neg hms]
  · rw [exec_poll_of_pressed hpressed, if_neg Bool.false_ne_true, release_eq, if_pos hms, hms]
    rfl

/-- Settles O39: the count of a tick before the last is the count that a tick leaves in the register. -/
theorem msTickOperation : Obligations.MsTickOperation := by
  refine ⟨rfl, fun s => ⟨fun hsettle hle => ?_, fun hsettle hlt => ?_, exec_msTick_of_idle, exec_msTick_of_pressed⟩⟩
  · rw [exec_msTick_of_settle hsettle, settleTick_of_le_one hle]
    rfl
  · have hcount := settleTick_settleCount s
    rw [exec_msTick_of_settle hsettle]
    rw [settleTick_of_one_lt hlt] at hcount ⊢
    exact ⟨rfl, hcount⟩

/-! ### What an operation can do to the latch -/

/-- Every operation leaves the latch's registers as they are, or is one of the latch's three transitions, or RESET. -/
theorem exec_latch_cases {i : Instr} {s t : State} (h : exec i s = .next t) :
    (¬ (i = .msTick ∧ s.bstate = .settle) ∧ SameLatch s t) ∨ (i = .poll true ∧ s.bstate = .idle ∧ t = s.toggle) ∨
    (i = .poll false ∧ s.bstate = .pressed ∧ t = s.release) ∨ (i = .msTick ∧ s.bstate = .settle ∧ t = s.settleTick) ∨
    (i = .reset ∧ t = s.resetRegisters) := by
  have hrefl : SameLatch s s := (agree_equivalence .latch).refl s
  by_cases hw : writes i .latch = true
  · obtain rfl | ⟨b, rfl⟩ | rfl := writes_latch_iff.1 hw
    · exact .inr (.inr (.inr (.inr ⟨rfl, eq_resetRegisters_of_exec_reset h⟩)))
    · obtain ⟨hidle, rfl, rfl⟩ | ⟨hpressed, rfl, rfl⟩ | ⟨-, rfl, -⟩ := execPoll_cases h
      · exact .inr (.inl ⟨rfl, hidle, rfl⟩)
      · exact .inr (.inr (.inl ⟨rfl, hpressed, rfl⟩))
      · exact .inl ⟨by simp, hrefl⟩
    · obtain ⟨hsettle, rfl⟩ | ⟨hkept, rfl⟩ := execMsTick_cases h
      · exact .inr (.inr (.inr (.inl ⟨rfl, hsettle, rfl⟩)))
      · exact .inl ⟨fun ⟨_, hsettle⟩ => by simp [hsettle] at hkept, hrefl⟩
  · exact .inl ⟨fun ⟨hi, _⟩ => hw (hi ▸ rfl), agree_of_not_writes hw h⟩

/-- Settles O40: each transition of the latch and RESET write one of the three states, and every other operation keeps the
latch. -/
theorem invalidLatchPatternIsRefused : Obligations.InvalidLatchPatternIsRefused := by
  refine ⟨fun s hs => ⟨exec_poll_of_invalid hs, exec_msTick_of_invalid hs⟩, fun i s t h ht => ?_⟩
  obtain ⟨-, -, hkept, -⟩ | ⟨-, -, rfl⟩ | ⟨-, -, rfl⟩ | ⟨-, hsettle, rfl⟩ | ⟨-, rfl⟩ := exec_latch_cases h
  · exact hkept.symm.trans ht
  · rw [toggle_eq] at ht
    cases ht
  · rw [release_eq] at ht
    split at ht <;> cases ht
  · simp only [settleTick_eq, hsettle] at ht
    split at ht <;> cases ht
  · cases ht

/-! ### Runs -/

theorem execAll_cons_eq_next_iff {i : Instr} {is : List Instr} {s t : State} :
    execAll (i :: is) s = .next t ↔ ∃ m, exec i s = .next m ∧ execAll is m = .next t := by
  simp only [execAll]
  cases exec i s <;> simp

/-- What each event of a run keeps, the run keeps. -/
theorem execAll_keeps {P : State → Prop} {is : List Instr} {s t : State}
    (hstep : ∀ i ∈ is, ∀ m u, P m → exec i m = .next u → P u) (hs : P s) (h : execAll is s = .next t) : P t := by
  induction is generalizing s with
  | nil => cases h; exact hs
  | cons i is ih =>
    obtain ⟨hi, his⟩ := List.forall_mem_cons.1 hstep
    obtain ⟨m, hm, hrest⟩ := execAll_cons_eq_next_iff.1 h
    exact ih his (hi s m hs hm) hrest

/-! ### A stuck input (R140) -/

/-- A pressed latch is left by the released reading and by RESET only. -/
theorem sameLatch_of_pressed {i : Instr} {s t : State} (hs : s.bstate = .pressed) (hpoll : i ≠ .poll false)
    (hreset : i ≠ .reset) (h : exec i s = .next t) : SameLatch s t := by
  obtain ⟨-, hkept⟩ | ⟨-, hidle, -⟩ | ⟨hi, -⟩ | ⟨-, hsettle, -⟩ | ⟨hi, -⟩ := exec_latch_cases h
  · exact hkept
  · simp [hs] at hidle
  · exact absurd hi hpoll
  · simp [hs] at hsettle
  · exact absurd hi hreset

theorem sameLatch_of_execAll_pressed {is : List Instr} {s t : State} (hs : s.bstate = .pressed) (hpoll : .poll false ∉ is)
    (hreset : .reset ∉ is) (h : execAll is s = .next t) : SameLatch s t := by
  have equiv := agree_equivalence .latch
  refine execAll_keeps (P := SameLatch s) (fun i hi m u hm hu => ?_) (equiv.refl s) h
  have hpressed : m.bstate = .pressed := hm.2.1.trans hs
  exact equiv.trans hm (sameLatch_of_pressed hpressed (ne_of_mem_of_not_mem hi hpoll) (ne_of_mem_of_not_mem hi hreset) hu)

/-- Settles O41: no event of the run writes the latch, and neither PWM_OVF nor CONV_DONE asks anything of it. -/
theorem stuckInputStaysPressed : Obligations.StuckInputStaysPressed := by
  intro is s t hs hpoll hreset h
  obtain ⟨hclaw, hstate, -, hduty⟩ := sameLatch_of_execAll_pressed hs hpoll hreset h
  exact ⟨hstate.trans hs, hclaw, hduty, ⟨_, exec_pwmOvf t⟩, fun hbusy _ => execConvDone_next hbusy⟩

/-! ### The settle interval (R143) -/

/-- A run short of RESET and of the ticks the count still asks for stays in `SETTLE` and takes its ticks from the count. -/
theorem execAll_of_settle {is : List Instr} {s t : State} (hs : s.bstate = .settle) (hreset : .reset ∉ is)
    (hticks : ticks is < s.settleCount) (h : execAll is s = .next t) :
    t.bstate = .settle ∧ t.settleCount + ticks is = s.settleCount ∧ t.claw = s.claw ∧ t.duty clawAxis = s.duty clawAxis := by
  induction is generalizing s with
  | nil => cases h; exact ⟨hs, rfl, rfl, rfl⟩
  | cons i is ih =>
    obtain ⟨hi, his⟩ := List.ne_and_not_mem_of_not_mem_cons hreset
    obtain ⟨m, hm, hrest⟩ := execAll_cons_eq_next_iff.1 h
    obtain ⟨htick, hclaw, hstate, hcount, hduty⟩ | ⟨-, hidle, -⟩ | ⟨-, hpressed, -⟩ | ⟨rfl, -, rfl⟩ | ⟨hi', -⟩ :=
      exec_latch_cases hm
    · have hlen : ticks (i :: is) = ticks is := List.count_cons_of_ne fun hi => htick ⟨hi, hs⟩
      obtain ⟨htstate, htcount, htclaw, htduty⟩ := ih (hstate.trans hs) his (by omega) hrest
      exact ⟨htstate, by omega, htclaw.trans hclaw, htduty.trans hduty⟩
    · simp [hs] at hidle
    · simp [hs] at hpressed
    · have hlen : ticks (.msTick :: is) = ticks is + 1 := List.count_cons_self
      have hcount := settleTick_settleCount s
      obtain ⟨-, -, -, -, hclaw, hduty, -⟩ := settleTick_frame s
      have hstate : s.settleTick.bstate = .settle := by
        rw [settleTick_of_one_lt (by omega), State.setSc_bstate, hs]
      obtain ⟨htstate, htcount, htclaw, htduty⟩ := ih hstate his (by omega) hrest
      exact ⟨htstate, by omega, htclaw.trans hclaw, htduty.trans hduty⟩
    · exact absurd hi'.symm hi

/-- After the release the count holds `SETTLE_MS`, from which a run takes its ticks. -/
theorem execAll_of_release {is : List Instr} {s t : State} (hreset : .reset ∉ is) (hticks : ticks is < s.cfg.settleMs)
    (h : execAll is s.release = .next t) : t.bstate = .settle ∧ t.settleCount + ticks is = s.cfg.settleMs ∧
      t.claw = s.claw ∧ t.duty clawAxis = s.duty clawAxis := by
  obtain ⟨-, -, -, -, hclaw, hduty, -⟩ := release_frame s
  have hstate : s.release.bstate = .settle := by rw [release_eq]; exact if_neg (by omega)
  rw [← release_settleCount] at hticks ⊢
  rw [← hclaw, ← hduty]
  exact execAll_of_settle hstate hreset hticks h

/-- Settles O45: the run takes its ticks from a count of `SETTLE_MS`, and a count of 1 is left at the next tick. -/
theorem settleIntervalLength : Obligations.SettleIntervalLength := by
  refine fun s hs _ => ⟨s.release, exec_poll_of_pressed hs false, fun is t hreset h =>
    ⟨fun hticks => execAll_of_release hreset hticks h, fun hlast => ?_⟩⟩
  obtain ⟨htstate, htcount, htclaw, -⟩ := execAll_of_release hreset (by omega) h
  refine ⟨_, exec_msTick_of_settle htstate, ?_⟩
  rw [settleTick_of_le_one (by omega)]
  exact ⟨rfl, BitVec.toNat_zero, htclaw⟩

end Sys2Proof.Machine

/-! PROOFS. The family of 44_system_ops.md: NOP, alone and inserted in a run (R155), and RESET (R156). -/

namespace Sys2Proof.Machine

/-! ### NOP (R155) -/

@[simp] theorem exec_nop (s : State) : exec .nop s = .next s := rfl

theorem execAll_nop_cons (is : List Instr) (s : State) : execAll (.nop :: is) s = execAll is s := rfl

theorem execAll_replicate_nop_append (n : Nat) (is : List Instr) (s : State) :
    execAll (List.replicate n .nop ++ is) s = execAll is s := by
  induction n with
  | zero => rfl
  | succ n ih => rw [List.replicate_succ, List.cons_append, execAll_nop_cons, ih]

/-- Two runs that answer alike from every state answer alike behind the same events. -/
theorem execAll_append_congr {xs ys : List Instr} (h : ∀ s, execAll xs s = execAll ys s) (before : List Instr) (s : State) :
    execAll (before ++ xs) s = execAll (before ++ ys) s := by
  induction before generalizing s with
  | nil => exact h s
  | cons i is ih => simp only [List.cons_append, execAll, ih]

/-- Settles O16: the inserted events pass every state on as it is, so the runs agree from the place of insertion on. -/
theorem nopChangesNothingAnywhere : Obligations.NopChangesNothingAnywhere := by
  refine ⟨rfl, exec_nop, fun before after n s => ?_⟩
  rw [List.append_assoc]
  exact execAll_append_congr (execAll_replicate_nop_append n after) before s

/-! ### RESET (R156) -/

theorem exec_reset (s : State) : exec .reset s = .next s.resetRegisters := rfl

/-- Settles O13: RESET answers the reset registers in every state, and they hold `POS_INIT * Q` whole, as at power-on. -/
theorem resetOperation : Obligations.ResetOperation :=
  ⟨rfl, exec_reset, fun _ hwf => powerOn_pos hwf 0⟩

end Sys2Proof.Machine

/-! PROOFS. The family of 70_reset_and_hazards.md: the block is idle after reset (R192). -/

namespace Sys2Proof.Machine

/-! ### The setting -/

/-- No operation writes the configuration, the trace or its index. -/
theorem exec_sameSetting {i : Instr} {s t : State} (h : exec i s = .next t) : SameSetting s t := by
  have hrefl : SameSetting s s := ⟨rfl, rfl, rfl⟩
  cases i with
  | nop => cases h; exact hrefl
  | start =>
    obtain ⟨-, rfl⟩ | ⟨-, rfl⟩ := execStart_cases h
    · exact hrefl
    · obtain ⟨-, -, -, hset⟩ := repair_trigger_frame s (repairedChannel s.ch)
      exact hset
  | convDone n =>
    obtain ⟨-, -, -, -, -, -, -, hset, -⟩ := execConvDone_cases h
    exact hset
  | pwmOvf =>
    cases h
    obtain ⟨-, -, -, -, hset⟩ := commit_frame s
    exact hset
  | poll b =>
    obtain ⟨-, -, rfl⟩ | ⟨-, -, rfl⟩ | ⟨-, rfl, -⟩ := execPoll_cases h
    · obtain ⟨-, -, -, hset, -⟩ := toggle_frame s
      exact hset
    · obtain ⟨-, -, -, hset, -⟩ := release_frame s
      exact hset
    · exact hrefl
  | msTick =>
    obtain ⟨-, rfl⟩ | ⟨-, rfl⟩ := execMsTick_cases h
    · obtain ⟨-, -, -, hset, -⟩ := settleTick_frame s
      exact hset
    · exact hrefl
  | reset => cases h; exact hrefl

/-! ### The idle block (R192) -/

/-- With no conversion outstanding and the latch in `IDLE`, the operations R192 names are the only ones with an effect. -/
theorem exec_of_not_busy_of_idle {i : Instr} {s t : State} (hbusy : s.busy = false) (hidle : s.bstate = .idle)
    (h : exec i s = .next t) : i = .start ∨ i = .pwmOvf ∨ i = .poll true ∨ i = .reset ∨ t = s := by
  cases i with
  | start | pwmOvf | reset => simp
  | nop => cases h; simp
  | convDone n =>
    obtain ⟨-, hb, -⟩ := execConvDone_cases h
    simp [hbusy] at hb
  | poll b =>
    cases b with
    | true => simp
    | false => rw [exec_poll_of_idle hidle] at h; cases h; simp
  | msTick => rw [exec_msTick_of_idle hidle] at h; cases h; simp

/-! ### Only START begins sampling (R192, R93) -/

theorem not_busy_of_exec {i : Instr} {s t : State} (hi : i ≠ .start) (hbusy : s.busy = false) (h : exec i s = .next t) :
    t.busy = false := by
  by_cases hw : writes i .sequencer = true
  · obtain rfl | rfl | ⟨n, rfl⟩ := writes_sequencer_iff.1 hw
    · rw [eq_resetRegisters_of_exec_reset h]
      rfl
    · exact absurd rfl hi
    · obtain ⟨-, hb, -⟩ := execConvDone_cases h
      simp [hbusy] at hb
  · obtain ⟨-, hkept⟩ := agree_of_not_writes hw h
    exact hkept.trans hbusy

theorem not_busy_of_execAll {is : List Instr} {s t : State} (his : .start ∉ is) (hbusy : s.busy = false)
    (h : execAll is s = .next t) : t.busy = false :=
  execAll_keeps (P := fun m => m.busy = false) (fun _ hi _ _ => not_busy_of_exec (ne_of_mem_of_not_mem hi his)) hbusy h

theorem execAll_cfg {is : List Instr} {s t : State} (h : execAll is s = .next t) : t.cfg = s.cfg :=
  execAll_keeps (P := fun m => m.cfg = s.cfg) (fun _ _ _ _ hm hu => (exec_sameSetting hu).1.trans hm) rfl h

/-- Settles O14: at power-on the sequencer and the latch are idle, and a run without START leaves no conversion for a
CONV_DONE to answer. -/
theorem idleAfterReset : Obligations.IdleAfterReset := by
  refine fun c => ⟨rfl, rfl, fun i t h hne => ?_, ⟨_, exec_start_of_not_busy rfl, rfl⟩, exec_pwmOvf_cmp _,
    ⟨_, exec_poll_of_idle rfl true, rfl⟩, exec_reset _, fun is t n his h hn => ?_⟩
  · obtain hi | hi | hi | rfl | rfl := exec_of_not_busy_of_idle rfl rfl h
    · exact .inl hi
    · exact .inr (.inl hi)
    · exact .inr (.inr hi)
    · exact absurd (eq_resetRegisters_of_exec_reset h) hne
    · exact absurd rfl hne
  · have hcfg : t.cfg = c := execAll_cfg h
    exact exec_convDone_of_not_busy (hcfg ▸ hn) (not_busy_of_execAll his rfl h)

end Sys2Proof.Machine

/-! PROOFS. The invariants of reachable states (10_state R34): one predicate per unit of 20_memory R63, kept by every
operation, and with them the repair of corrupted registers (60_exceptions R170). -/

namespace Sys2Proof.Machine

/-! ### The invariants, unit by unit -/

/-- Lines 2 and 3 of 10_state R34, for one channel. -/
def ChannelInv (j : Channel) (s : State) : Prop :=
  s.pos j ≤ s.cfg.pmaxq ∧ s.duty (axisOf j) = mapDuty s.cfg j (s.pos j)

/-- Lines 5 and 7 of 10_state R34 and the pattern R28 excludes: the latch's registers. -/
structure LatchInv (s : State) : Prop where
  duty_claw : s.duty clawAxis = clawTick s.cfg s.claw
  bstate_valid : s.bstate ≠ .invalid
  sc_idle : s.bstate ≠ .settle → s.settleCount = 0
  sc_settle : s.bstate = .settle → 1 ≤ s.settleCount ∧ s.settleCount ≤ s.cfg.settleMs

/-- Line 6 of 10_state R34: the compare registers. -/
def CompareInv (s : State) : Prop :=
  (∀ a v, s.cmp a = some v → InBounds s.cfg a v) ∧ ∀ a b, s.cmp a = none → s.cmp b = none

theorem forall_axis_iff_channel_claw {P : Axis → Prop} : (∀ a, P a) ↔ (∀ j, P (axisOf j)) ∧ P clawAxis := by
  rw [forall_axis, forall_channel, and_assoc]
  exact Iff.rfl

theorem mapDuty_inBounds {c : Config} (h : c.wf = true) (j : Channel) (p : Nat) :
    InBounds c (axisOf j) (mapDuty c j p) := by
  rw [InBounds, mapDuty_toNat h]
  exact mapTick_mem h j p

theorem clawTick_inBounds {c : Config} (h : c.wf = true) (k : Claw) : InBounds c clawAxis (clawTick c k) := by
  rw [InBounds, clawTick_toNat h]
  exact clawTickNat_mem h k

/-- Line 4 of 10_state R34 follows from lines 3 and 5. -/
theorem inv_of_units {s : State} (hwf : s.cfg.wf = true) (hch : s.ch.toNat < numChannels) (hchan : ∀ j, ChannelInv j s)
    (hlatch : LatchInv s) (hcmp : CompareInv s) : Inv s where
  cfg_wf := hwf
  ch_valid := hch
  pos_le j := (hchan j).1
  duty_map j := (hchan j).2
  duty_bounds := forall_axis_iff_channel_claw.2
    ⟨fun j => (hchan j).2 ▸ mapDuty_inBounds hwf j _, hlatch.duty_claw ▸ clawTick_inBounds hwf _⟩
  duty_claw := hlatch.duty_claw
  cmp_bounds := hcmp.1
  cmp_together := hcmp.2
  bstate_valid := hlatch.bstate_valid
  sc_idle := hlatch.sc_idle
  sc_settle := hlatch.sc_settle

theorem Inv.channelInv {s : State} (h : Inv s) (j : Channel) : ChannelInv j s := ⟨h.pos_le j, h.duty_map j⟩

theorem Inv.latchInv {s : State} (h : Inv s) : LatchInv s := ⟨h.duty_claw, h.bstate_valid, h.sc_idle, h.sc_settle⟩

theorem Inv.compareInv {s : State} (h : Inv s) : CompareInv s := ⟨h.cmp_bounds, h.cmp_together⟩

/-! ### The reset registers meet them -/

theorem inv_of_hasResetRegisters {s : State} (hwf : s.cfg.wf = true) (h : HasResetRegisters s.cfg s) : Inv s := by
  refine inv_of_units hwf (by rw [h.ch]; decide) (fun j => ⟨?_, ?_⟩) ⟨?_, ?_, fun _ => h.settleCount, fun hsettle => ?_⟩
    ⟨fun a v hv => ?_, fun _ b _ => h.cmp b⟩
  · rw [h.pos]
    exact Config.posInitQ_le hwf
  · rw [h.duty, h.pos]
  · rw [h.duty_claw, h.claw]
  · simp [h.bstate]
  · simp [h.bstate] at hsettle
  · simp [h.cmp] at hv

theorem inv_powerOn {c : Config} (hwf : c.wf = true) : Inv (State.powerOn c) :=
  inv_of_hasResetRegisters hwf (powerOn_hasResetRegisters hwf)

/-- Settles O46: the registers of power-on are the reset registers. -/
theorem invariantsHoldAtReset : Obligations.InvariantsHoldAtReset :=
  ⟨fun _ hwf => inv_powerOn hwf, inv_powerOn (by decide)⟩

/-! ### Every operation keeps them -/

section
variable {i : Instr} {s t : State}

theorem cfg_of_exec (h : exec i s = .next t) : t.cfg = s.cfg := (exec_sameSetting h).1

/-- The index register holds a channel number after every operation that found one there. -/
theorem ch_valid_of_exec (hs : s.ch.toNat < numChannels) (h : exec i s = .next t) : t.ch.toNat < numChannels := by
  obtain hkept | ⟨j, hj⟩ := exec_ch_cases h
  · rwa [hkept]
  · rw [hj]
    exact (setCh_toNat s j).trans_lt j.isLt

theorem channelInv_of_sameChannel {j : Channel} (hcfg : t.cfg = s.cfg) (hsame : SameChannel j s t) (hs : ChannelInv j s) :
    ChannelInv j t := by
  obtain ⟨hpos, hduty⟩ := hsame
  rw [ChannelInv, hpos, hduty, hcfg]
  exact hs

/-- A completion brings the channel it serves into range, whatever the registers held (41 R105, R106). -/
theorem channelInv_of_convDone {n : Nat} (h : exec (.convDone n) s = .next t) : ChannelInv (repairedChannel s.ch) t := by
  obtain ⟨-, -, hpos, hduty, -⟩ := execConvDone_cases h
  rw [ChannelInv, hduty, hpos, cfg_of_exec h]
  exact ⟨integrateQ_le _ _ _, rfl⟩

theorem channelInv_of_exec {j : Channel} (hi : i ≠ .reset) (hs : ChannelInv j s) (h : exec i s = .next t) :
    ChannelInv j t := by
  by_cases hsame : SameChannel j s t
  · exact channelInv_of_sameChannel (cfg_of_exec h) hsame hs
  · have hw : writes i (.channel j) = true := writes_of_not_agree h hsame
    obtain ⟨n, rfl⟩ := (writes_channel_iff.1 hw).resolve_left hi
    rw [eq_repairedChannel_of_not_sameChannel h hsame]
    exact channelInv_of_convDone h

theorem latchInv_of_sameLatch (hcfg : t.cfg = s.cfg) (hsame : SameLatch s t) (hs : LatchInv s) : LatchInv t := by
  obtain ⟨hclaw, hstate, hcount, hduty⟩ := hsame
  constructor
  · rw [hduty, hcfg, hclaw]
    exact hs.duty_claw
  · rw [hstate]
    exact hs.bstate_valid
  · rw [hstate, hcount]
    exact hs.sc_idle
  · rw [hstate, hcount, hcfg]
    exact hs.sc_settle

/-- The toggle gives the claw axis the tick of the claw, whatever its register held (43 R136). -/
theorem toggle_duty_claw (s : State) : s.toggle.duty clawAxis = clawTick s.cfg s.toggle.claw := by
  rw [toggle_eq]
  rfl

theorem toggle_latchInv (hidle : s.bstate = .idle) (hs : LatchInv s) : LatchInv s.toggle := by
  have hstate : s.toggle.bstate = .pressed := rfl
  obtain ⟨-, -, -, ⟨hcfg, -⟩, hcount, -⟩ := toggle_frame s
  refine ⟨?_, by simp [hstate], fun _ => ?_, fun h => by simp [hstate] at h⟩
  · rw [toggle_duty_claw, hcfg]
  · rw [hcount]
    exact hs.sc_idle (by simp [hidle])

theorem release_bstate (s : State) : s.release.bstate = if s.cfg.settleMs = 0 then .idle else .settle := by
  rw [release_eq]

theorem release_latchInv (hs : LatchInv s) : LatchInv s.release := by
  obtain ⟨-, -, -, ⟨hcfg, -⟩, hclaw, hduty, -⟩ := release_frame s
  refine ⟨?_, ?_, ?_, ?_⟩
  · rw [hduty, hcfg, hclaw]
    exact hs.duty_claw
  all_goals
    simp only [release_bstate, release_settleCount, hcfg]
    split_ifs <;> simp <;> omega

theorem settleTick_bstate (s : State) : s.settleTick.bstate = if s.settleCount ≤ 1 then .idle else s.bstate := by
  rw [settleTick_eq]

theorem settleTick_latchInv (hsettle : s.bstate = .settle) (hs : LatchInv s) : LatchInv s.settleTick := by
  obtain ⟨-, -, -, ⟨hcfg, -⟩, hclaw, hduty, -⟩ := settleTick_frame s
  have hcount := hs.sc_settle hsettle
  refine ⟨?_, ?_, ?_, ?_⟩
  · rw [hduty, hcfg, hclaw]
    exact hs.duty_claw
  all_goals
    simp only [settleTick_bstate, settleTick_settleCount, hcfg, hsettle]
    split_ifs <;> simp <;> omega

theorem latchInv_of_exec (hi : i ≠ .reset) (hs : LatchInv s) (h : exec i s = .next t) : LatchInv t := by
  obtain ⟨-, hkept⟩ | ⟨-, hidle, rfl⟩ | ⟨-, -, rfl⟩ | ⟨-, hsettle, rfl⟩ | ⟨hreset, -⟩ := exec_latch_cases h
  · exact latchInv_of_sameLatch (cfg_of_exec h) hkept hs
  · exact toggle_latchInv hidle hs
  · exact release_latchInv hs
  · exact settleTick_latchInv hsettle hs
  · exact absurd hreset hi

theorem pwmOvf_cmp (h : exec .pwmOvf s = .next t) (a : Axis) : t.cmp a = some (s.duty a) := by
  obtain ⟨u, hu, hcopy⟩ := exec_pwmOvf_cmp s
  cases hu.symm.trans h
  exact hcopy a

/-- The commit is the one writer of the compare registers, and it writes duty-cycle values, which are in bounds. -/
theorem compareInv_of_exec (hi : i ≠ .reset) (hduty : ∀ a, InBounds s.cfg a (s.duty a)) (hs : CompareInv s)
    (h : exec i s = .next t) : CompareInv t := by
  rw [CompareInv, cfg_of_exec h]
  by_cases hsame : SameCompare s t
  · simp only [hsame _]
    exact hs
  · have hw : writes i .compare = true := writes_of_not_agree (u := .compare) h hsame
    obtain rfl := (writes_compare_iff.1 hw).resolve_left hi
    simp only [pwmOvf_cmp h, Option.some.injEq, reduceCtorEq, false_imp_iff, implies_true, and_true]
    exact fun a v hv => hv ▸ hduty a

theorem inv_of_exec (hs : Inv s) (h : exec i s = .next t) : Inv t := by
  have hcfg := cfg_of_exec h
  by_cases hi : i = .reset
  · subst hi
    rw [eq_resetRegisters_of_exec_reset h]
    exact inv_of_hasResetRegisters hs.cfg_wf (resetRegisters_hasResetRegisters hs.cfg_wf)
  · exact inv_of_units (hcfg ▸ hs.cfg_wf) (ch_valid_of_exec hs.ch_valid h)
      (fun j => channelInv_of_exec hi (hs.channelInv j) h) (latchInv_of_exec hi hs.latchInv h)
      (compareInv_of_exec hi hs.duty_bounds hs.compareInv h)

theorem inv_of_execAll {is : List Instr} (hs : Inv s) (h : execAll is s = .next t) : Inv t :=
  execAll_keeps (P := Inv) (fun _ _ _ _ => inv_of_exec) hs h

/-- The index of the trace is read by no line of the invariants. -/
theorem inv_advance (hs : Inv s) : Inv s.advance := { hs with }

/-! ### A step is idle or one operation -/

theorem step_cases (h : step s = .next t) : t = s ∨ ∃ i u, exec i s = .next u ∧ t = u.advance := by
  unfold step at h
  split at h
  next => cases h
  next => cases h; exact .inl rfl
  next i _ =>
    split at h
    next u hu => cases h; exact .inr ⟨i, u, hu, rfl⟩
    next => cases h
    next => cases h

end

/-- Settles O47: a step that is not idle is one operation and moves the index. -/
theorem everyStepKeepsTheInvariants : Obligations.EveryStepKeepsTheInvariants := by
  intro s t hs h
  obtain rfl | ⟨i, u, hu, rfl⟩ := step_cases h
  · exact hs
  · exact inv_advance (inv_of_exec hs hu)

/-! ### Corrupted registers (60_exceptions R170) -/

/-- Settles O32: what a completion and a toggle write does not depend on what the written registers held. -/
theorem corruptRegistersHeal : Obligations.CorruptRegistersHeal := by
  refine ⟨fun s t n i hwf hi h => ?_, fun s hwf hidle => ?_⟩
  · obtain rfl : i = repairedChannel s.ch := eq_repairedChannel hi
    obtain ⟨-, -, -, -, -, -, -, -, -, -, hch⟩ := execConvDone_cases h
    obtain ⟨hpos, hduty⟩ := channelInv_of_convDone h
    rw [cfg_of_exec h] at hpos hduty
    refine ⟨hpos, hduty, hduty ▸ mapDuty_inBounds hwf _ _, ?_⟩
    rw [hch]
    exact (setCh_toNat s _).trans_lt (Fin.isLt _)
  · refine ⟨_, exec_poll_of_idle hidle true, toggle_duty_claw s, ?_⟩
    rw [if_pos rfl, toggle_duty_claw]
    exact clawTick_inBounds hwf _

end Sys2Proof.Machine

/-! PROOFS. The arithmetic of the block: INTEGRATE over a whole range of samples and positions (41 R108) and MAP over the
rationals (42 R123). -/

namespace Sys2Proof.Machine

/-! ### The clamp moves no two values apart -/

theorem clamp_eq_max_min {α : Type} [LinearOrder α] {v lo hi : α} (h : lo ≤ hi) : clamp v lo hi = max lo (min hi v) := by
  unfold clamp
  split_ifs with hlo hhi
  · rw [min_eq_right (hlo.le.trans h), max_eq_left hlo.le]
  · rw [min_eq_left hhi.le, max_eq_right h]
  · rw [min_eq_right (not_lt.1 hhi), max_eq_right (not_lt.1 hlo)]

theorem abs_clamp_sub_clamp_le {α : Type} [AddCommGroup α] [LinearOrder α] [IsOrderedAddMonoid α]
    {v w lo hi : α} (h : lo ≤ hi) : |clamp v lo hi - clamp w lo hi| ≤ |v - w| := by
  rw [clamp_eq_max_min h, clamp_eq_max_min h]
  calc |max lo (min hi v) - max lo (min hi w)|
      ≤ |min hi v - min hi w| := by simpa using abs_max_sub_max_le_max lo (min hi v) lo (min hi w)
    _ ≤ |v - w| := by simpa using abs_min_sub_min_le_max hi v hi w

/-- Adding a rate to a sum already cut off at the top gives the next sum, cut off at the top. -/
theorem clamp_min_add {y r hi : ℚ} (hy : 0 ≤ y) (hr : 0 ≤ r) (hhi : 0 ≤ hi) :
    clamp (min hi y + r) 0 hi = min hi (y + r) := by
  rw [clamp_eq_max_min hhi, max_eq_right (by positivity), ← min_add_add_right, ← min_assoc,
    min_eq_left (le_add_of_nonneg_right hr)]

/-- Taking a rate from a difference already cut off at 0 gives the next difference, cut off at 0. -/
theorem clamp_max_sub {y r hi : ℚ} (hy : y ≤ hi) (hr : 0 ≤ r) (hhi : 0 ≤ hi) :
    clamp (max 0 y - r) 0 hi = max 0 (y - r) := by
  have hle : max 0 y - r ≤ hi := by linarith [max_le hhi hy]
  rw [clamp_eq_max_min hhi, min_eq_right hle, ← max_sub_sub_right, zero_sub, ← max_assoc, max_eq_left (neg_nonpos.2 hr)]

/-! ### The rate function (41 R101) -/

section
variable {c : Config} {n n' p p' : Nat}

theorem deltaQ_of_deadZone (hlow : c.tLow ≤ n) (hhigh : n ≤ c.tHigh) : deltaQ c n = 0 := by
  rw [deltaQ, if_neg hhigh.not_gt, if_neg hlow.not_gt]

theorem deltaQ_nonneg_of_gt (h : c.tHigh < n) : 0 ≤ deltaQ c n := by
  rw [deltaQ, if_pos h]
  exact Int.natCast_nonneg _

theorem deltaQ_of_lt (hwf : c.wf = true) (h : n < c.tLow) : deltaQ c n = -((c.kd * (c.tLow - n) : Nat) : Int) := by
  obtain ⟨-, ⟨-, hle, -⟩, -⟩ := Config.wf_lines hwf
  rw [deltaQ, if_neg (by omega), if_pos h]

theorem deltaQ_nonpos_of_le (hwf : c.wf = true) (h : n ≤ c.tHigh) : deltaQ c n ≤ 0 := by
  by_cases hlow : n < c.tLow
  · rw [deltaQ_of_lt hwf hlow]
    exact neg_nonpos.2 (Int.natCast_nonneg _)
  · rw [deltaQ_of_deadZone (not_lt.1 hlow) h]

/-- The rate rises within each of the three ranges of the sample, and through 0 from each range to the next. -/
theorem deltaQ_mono (hwf : c.wf = true) (h : n ≤ n') : deltaQ c n ≤ deltaQ c n' := by
  by_cases hhigh : c.tHigh < n
  · rw [deltaQ, if_pos hhigh, deltaQ, if_pos (hhigh.trans_le h)]
    exact_mod_cast Nat.mul_le_mul_left _ (Nat.sub_le_sub_right h _)
  have hn := deltaQ_nonpos_of_le hwf (not_lt.1 hhigh)
  by_cases hhigh' : c.tHigh < n'
  · exact hn.trans (deltaQ_nonneg_of_gt hhigh')
  by_cases hlow' : n' < c.tLow
  · rw [deltaQ_of_lt hwf (h.trans_lt hlow'), deltaQ_of_lt hwf hlow', neg_le_neg_iff]
    exact_mod_cast Nat.mul_le_mul_left _ (Nat.sub_le_sub_left h _)
  · rwa [deltaQ_of_deadZone (not_lt.1 hlow') (not_lt.1 hhigh')]

theorem delta_mono (hwf : c.wf = true) (h : n ≤ n') : delta c n ≤ delta c n' := by
  rw [← deltaQ_div_scale hwf, ← deltaQ_div_scale hwf]
  have := deltaQ_mono hwf h
  gcongr

theorem delta_sampleMax (hwf : c.wf = true) : delta c c.sampleMax = c.rateMax := by
  obtain ⟨-, ⟨-, -, hlt⟩, -⟩ := Config.wf_lines hwf
  have hspan : (c.sampleMax - c.tHigh : ℚ) ≠ 0 := sub_ne_zero.2 (by exact_mod_cast hlt.ne')
  rw [delta_of_gt hlt, div_self hspan, mul_one]

theorem delta_zero (hwf : c.wf = true) : delta c 0 = -c.rateMax := by
  obtain ⟨-, ⟨hpos, -⟩, -⟩ := Config.wf_lines hwf
  have hspan : (c.tLow : ℚ) ≠ 0 := by exact_mod_cast hpos.ne'
  rw [delta_of_lt hwf hpos, Nat.cast_zero, zero_sub, neg_div, div_self hspan, mul_neg_one]

theorem rateMax_nonneg (c : Config) : 0 ≤ c.rateMax := by
  unfold Config.rateMax
  positivity

/-- The rate is largest at the two ends of the range of samples. -/
theorem abs_delta_le_rateMax (hwf : c.wf = true) (h : n ≤ c.sampleMax) : |delta c n| ≤ c.rateMax :=
  abs_le.2 ⟨delta_zero hwf ▸ delta_mono hwf (Nat.zero_le n), delta_sampleMax hwf ▸ delta_mono hwf h⟩

/-! ### INTEGRATE (41 R105, R108) -/

theorem integrateQ_of_deadZone (hp : p ≤ c.pmaxq) (hlow : c.tLow ≤ n) (hhigh : n ≤ c.tHigh) : integrateQ c p n = p := by
  rw [← Nat.cast_inj (R := ℤ), integrateQ_cast, deltaQ_of_deadZone hlow hhigh, add_zero]
  exact clamp_of_mem (Int.natCast_nonneg p) (by exact_mod_cast hp)

theorem integrateQ_pmaxq (h : c.tHigh < n) : integrateQ c c.pmaxq n = c.pmaxq := by
  rw [← Nat.cast_inj (R := ℤ), integrateQ_cast]
  exact clamp_of_le (le_add_of_nonneg_right (deltaQ_nonneg_of_gt h)) (Int.natCast_nonneg _)

theorem integrateQ_zero (hwf : c.wf = true) (h : n ≤ c.tHigh) : integrateQ c 0 n = 0 := by
  rw [← Nat.cast_inj (R := ℤ), integrateQ_cast, Nat.cast_zero, zero_add]
  exact clamp_of_ge (deltaQ_nonpos_of_le hwf h) (Int.natCast_nonneg _)

theorem integrateQ_mono (hp : p ≤ p') (hrate : deltaQ c n ≤ deltaQ c n') : integrateQ c p n ≤ integrateQ c p' n' := by
  rw [← Nat.cast_le (α := ℤ), integrateQ_cast, integrateQ_cast]
  exact clamp_mono (by gcongr) (Int.natCast_nonneg _)

theorem position_pmaxq (hwf : c.wf = true) : position c c.pmaxq = c.positionMax := by
  have hscale : (c.scale : ℚ) ≠ 0 := by exact_mod_cast (Config.scale_pos hwf).ne'
  rw [position, Config.pmaxq, Nat.cast_mul, mul_div_cancel_right₀ _ hscale]

theorem position_nonneg (c : Config) (p : Nat) : 0 ≤ position c p := by
  unfold position
  positivity

theorem position_le_positionMax (hwf : c.wf = true) (h : p ≤ c.pmaxq) : position c p ≤ c.positionMax := by
  rw [← position_pmaxq hwf, position, position]
  gcongr

/-- One call moves a position in range by at most the rate: the clamp keeps the old position and adds no distance. -/
theorem abs_integrateRat_sub_le {x : ℚ} (hwf : c.wf = true) (hn : n ≤ c.sampleMax) (hx : 0 ≤ x) (hx' : x ≤ c.positionMax) :
    |integrateRat c x n - x| ≤ c.rateMax := by
  calc |integrateRat c x n - x|
      = |clamp (x + delta c n) 0 c.positionMax - clamp x 0 c.positionMax| := by rw [integrateRat, clamp_of_mem hx hx']
    _ ≤ |x + delta c n - x| := abs_clamp_sub_clamp_le (hx.trans hx')
    _ = |delta c n| := by rw [add_sub_cancel_left]
    _ ≤ c.rateMax := abs_delta_le_rateMax hwf hn

end

/-- Settles O25: the rate is monotone, with the rate of 0 at both thresholds and `RATE_MAX` at both ends. -/
theorem integratorMonotoneAndRateLimited : Obligations.IntegratorMonotoneAndRateLimited := by
  intro c p n hwf hn hp
  obtain ⟨-, ⟨-, hlowHigh, -⟩, -⟩ := Config.wf_lines hwf
  refine ⟨integrateQ_of_deadZone hp, integrateQ_pmaxq, fun hlow => integrateQ_zero hwf (hlow.le.trans hlowHigh),
    fun n' hle _ => ⟨delta_mono hwf hle, integrateQ_mono le_rfl (deltaQ_mono hwf hle)⟩,
    fun p' hle => integrateQ_mono hle le_rfl, ?_⟩
  rw [position_integrateQ hwf]
  exact abs_integrateRat_sub_le hwf hn (position_nonneg c p) (position_le_positionMax hwf hp)

/-! ### Repeated full-scale samples (41 R108 line 5) -/

section
variable {c : Config}

theorem posInit_nonneg (c : Config) : 0 ≤ c.posInit := by
  unfold Config.posInit
  positivity

theorem posInit_le (hwf : c.wf = true) : c.posInit ≤ c.positionMax := by
  rw [← position_posInitQ hwf]
  exact position_le_positionMax hwf (Config.posInitQ_le hwf)

theorem position_iterate_sampleMax (hwf : c.wf = true) (k : Nat) :
    position c ((fun p => integrateQ c p c.sampleMax)^[k] c.posInitQ) = min (c.positionMax : ℚ) (c.posInit + k * c.rateMax) := by
  have hrate := rateMax_nonneg c
  have hinit := posInit_nonneg c
  induction k with
  | zero => simpa [position_posInitQ hwf] using posInit_le hwf
  | succ k ih =>
    rw [Function.iterate_succ_apply', position_integrateQ hwf, ih, integrateRat, delta_sampleMax hwf,
      clamp_min_add (by positivity) hrate (by positivity)]
    push_cast
    ring_nf

theorem position_iterate_zero (hwf : c.wf = true) (k : Nat) :
    position c ((fun p => integrateQ c p 0)^[k] c.posInitQ) = max 0 (c.posInit - k * c.rateMax) := by
  have hrate := rateMax_nonneg c
  have hstep : 0 ≤ k * c.rateMax := by positivity
  induction k with
  | zero => simpa [position_posInitQ hwf] using posInit_nonneg c
  | succ k ih =>
    have hstep' : 0 ≤ k * c.rateMax := by positivity
    rw [Function.iterate_succ_apply', position_integrateQ hwf, ih hstep', integrateRat, delta_zero hwf, ← sub_eq_add_neg,
      clamp_max_sub (by linarith [posInit_le hwf]) hrate (by positivity)]
    push_cast
    ring_nf

end

/-- Settles O26: each call adds or takes `RATE_MAX` and cuts off at the same bound again. -/
theorem fullScaleSamplesIterate : Obligations.FullScaleSamplesIterate := fun _ k hwf =>
  ⟨position_iterate_sampleMax hwf k, position_iterate_zero hwf k⟩

/-! ### MAP over the rationals (42 R120 to R123) -/

theorem abs_floor_sub_floor_le (x y : ℚ) : |⌊x⌋ - ⌊y⌋| ≤ ⌈|x - y|⌉ := by
  have hle {x y : ℚ} : ⌊x⌋ - ⌊y⌋ ≤ ⌈|x - y|⌉ := by
    rw [sub_le_iff_le_add', ← Int.floor_add_intCast]
    exact Int.floor_le_floor (by linarith [le_abs_self (x - y), Int.le_ceil |x - y|])
  exact abs_le'.2 ⟨hle, by rw [neg_sub, abs_sub_comm]; exact hle⟩

section
variable {c : Config} (hwf : c.wf = true) (i : Channel)
include hwf

theorem bounds_min_le_max : (((c.bounds (axisOf i)).min : ℤ)) ≤ (c.bounds (axisOf i)).max := by
  obtain ⟨-, -, -, -, -, hbounds, -⟩ := Config.wf_lines hwf
  exact_mod_cast (hbounds (axisOf i)).1

theorem tickSpan_cast : (tickSpan c i : ℚ) = ((c.bounds (axisOf i)).max : ℚ) - (c.bounds (axisOf i)).min :=
  Nat.cast_sub (by exact_mod_cast bounds_min_le_max hwf i)

theorem mapRat_eq (p : ℚ) : mapRat c i p =
    clamp (((c.bounds (axisOf i)).min : ℤ) + ⌊p * tickSpan c i / c.positionMax⌋) (c.bounds (axisOf i)).min
      (c.bounds (axisOf i)).max := by
  rw [mapRat, tickSpan_cast hwf]

theorem mapRat_mono {p q : ℚ} (h : p ≤ q) : mapRat c i p ≤ mapRat c i q := by
  rw [mapRat_eq hwf, mapRat_eq hwf]
  exact clamp_mono (by gcongr) (bounds_min_le_max hwf i)

theorem mapRat_mem (p : ℚ) : ((c.bounds (axisOf i)).min : ℤ) ≤ mapRat c i p ∧ mapRat c i p ≤ (c.bounds (axisOf i)).max :=
  ⟨le_clamp (bounds_min_le_max hwf i), clamp_le (bounds_min_le_max hwf i)⟩

theorem mapRat_zero : mapRat c i 0 = (c.bounds (axisOf i)).min := by
  rw [mapRat_eq hwf, zero_mul, zero_div, Int.floor_zero, add_zero]
  exact clamp_of_mem le_rfl (bounds_min_le_max hwf i)

theorem mapRat_positionMax : mapRat c i c.positionMax = (c.bounds (axisOf i)).max := by
  obtain ⟨-, -, -, hmax, -⟩ := Config.wf_lines hwf
  have hne : (c.positionMax : ℚ) ≠ 0 := by exact_mod_cast Nat.one_le_iff_ne_zero.1 hmax
  have hspan : ((c.bounds (axisOf i)).min : ℤ) + tickSpan c i = (c.bounds (axisOf i)).max := by
    exact_mod_cast Nat.add_sub_cancel' (by exact_mod_cast bounds_min_le_max hwf i)
  rw [mapRat_eq hwf, mul_div_cancel_left₀ _ hne, Int.floor_natCast, hspan]
  exact clamp_of_mem (bounds_min_le_max hwf i) le_rfl

theorem mapRat_of_tickSpan_eq_zero (h : tickSpan c i = 0) (p : ℚ) : mapRat c i p = (c.bounds (axisOf i)).min := by
  rw [mapRat_eq hwf, h, Nat.cast_zero, mul_zero, zero_div, Int.floor_zero, add_zero]
  exact clamp_of_mem le_rfl (bounds_min_le_max hwf i)

/-- The tick moves at most with the position: neither the clamp nor the floor adds more than a rounding up. -/
theorem abs_mapRat_sub_le {p q r : ℚ} (h : |p - q| ≤ r) :
    |mapRat c i p - mapRat c i q| ≤ ⌈r * tickSpan c i / c.positionMax⌉ := by
  rw [mapRat_eq hwf, mapRat_eq hwf]
  refine (abs_clamp_sub_clamp_le (bounds_min_le_max hwf i)).trans ?_
  rw [add_sub_add_left_eq_sub]
  refine (abs_floor_sub_floor_le _ _).trans (Int.ceil_le_ceil ?_)
  rw [← sub_div, ← sub_mul, abs_div, abs_mul, Nat.abs_cast, Nat.abs_cast]
  gcongr

end

/-- Settles O31: MAP is the clamp of the floor of a monotone function that is exact at both ends. -/
theorem mapperMonotoneBoundedExactAtEnds : Obligations.MapperMonotoneBoundedExactAtEnds := fun _ i hwf =>
  ⟨fun _ _ => mapRat_mono hwf i, mapRat_mem hwf i, mapRat_zero hwf i, mapRat_positionMax hwf i,
    mapRat_of_tickSpan_eq_zero hwf i, fun _ _ hp hp' hn =>
      abs_mapRat_sub_le hwf i (abs_integrateRat_sub_le hwf hn hp hp')⟩

end Sys2Proof.Machine

/-! PROOFS. Runs of events: boot, the sequencer's counts and order (40 R88, R89, R92), the environment's contract
(60_exceptions R173), the order of a commit and a completion (20_memory R58) and the integrator over whole runs. -/

namespace Sys2Proof.Machine

/-! ### Runs -/

theorem SameSetting.symm {s t : State} (h : SameSetting s t) : SameSetting t s :=
  ⟨h.1.symm, h.2.1.symm, h.2.2.symm⟩

theorem SameSetting.trans {s t u : State} (h : SameSetting s t) (k : SameSetting t u) : SameSetting s u :=
  ⟨k.1.trans h.1, k.2.1.trans h.2.1, k.2.2.trans h.2.2⟩

/-- Settles O50: no operation writes the setting, so no run does. -/
theorem configurationIsNeverWritten : Obligations.ConfigurationIsNeverWritten := fun _ s _ h =>
  execAll_keeps (P := SameSetting s) (fun _ _ _ _ hm hu => hm.trans (exec_sameSetting hu)) ⟨rfl, rfl, rfl⟩ h

theorem completions_cons (i : Instr) (is : List Instr) : completions (i :: is) = completions [i] + completions is := by
  cases i with
  | convDone n => exact Nat.add_comm _ _
  | _ => exact (Nat.zero_add _).symm

theorem convDone_not_mem_of_completions_eq_zero {is : List Instr} (h : completions is = 0) (n : Nat) :
    .convDone n ∉ is := by
  induction is with
  | nil => exact List.not_mem_nil
  | cons i is ih =>
    rw [completions_cons, Nat.add_eq_zero_iff] at h
    obtain ⟨hi, his⟩ := h
    refine List.not_mem_cons_of_ne_of_not_mem ?_ (ih his)
    rintro rfl
    cases hi

/-- What each event of a run keeps of the state and the count of completions so far, the run keeps. -/
theorem execAll_keeps_counting {P : Nat → State → Prop} {is : List Instr} {s t : State} {k : Nat}
    (hstep : ∀ i ∈ is, ∀ k m u, P k m → exec i m = .next u → P (k + completions [i]) u) (hs : P k s)
    (h : execAll is s = .next t) : P (k + completions is) t := by
  induction is generalizing s k with
  | nil => cases h; exact hs
  | cons i is ih =>
    obtain ⟨hi, his⟩ := List.forall_mem_cons.1 hstep
    obtain ⟨m, hm, hrest⟩ := execAll_cons_eq_next_iff.1 h
    rw [completions_cons, ← Nat.add_assoc]
    exact ih his (hi k s m hs hm) hrest

/-! ### What an operation does to the sequencer and to the log -/

/-- The actions of a trigger: `SEL(j)`, `TRIG` (40 R86, R87). -/
def triggerActions (j : Channel) : List Action := [.sel j, .trig]

/-- The actions of a commit, with the duty-cycle values it copies (42 R125). -/
def commitActions (s : State) : List Action :=
  [.setDuty 0 (s.duty 0), .setDuty 1 (s.duty 1), .setDuty 2 (s.duty 2)]

theorem pwmOvf_out {s t : State} (h : exec .pwmOvf s = .next t) : t.out = s.out ++ commitActions s := by
  rw [exec_pwmOvf, commit_eq] at h
  cases h
  rfl

/-- An operation that does not write the sequencer logs a commit's actions or nothing. -/
theorem out_of_not_writes_sequencer {i : Instr} {s t : State} (hw : writes i .sequencer ≠ true) (h : exec i s = .next t) :
    t.out = s.out ∨ t.out = s.out ++ commitActions s := by
  cases i with
  | start | convDone n | reset => exact absurd rfl hw
  | nop => cases h; exact .inl rfl
  | pwmOvf => exact .inr (pwmOvf_out h)
  | poll b =>
    obtain ⟨-, -, rfl⟩ | ⟨-, -, rfl⟩ | ⟨-, rfl, -⟩ := execPoll_cases h
    · exact .inl rfl
    · obtain ⟨-, -, -, -, -, -, hout⟩ := release_frame s
      exact .inl hout
    · exact .inl rfl
  | msTick =>
    obtain ⟨-, rfl⟩ | ⟨-, rfl⟩ := execMsTick_cases h
    · obtain ⟨-, -, -, -, -, -, hout⟩ := settleTick_frame s
      exact .inl hout
    · exact .inl rfl

/-- A trigger on channel `j`: selected, triggered, outstanding (40 R86 steps 2 to 4, R87 steps 4 to 7). -/
def TriggeredOn (j : Channel) (s t : State) : Prop :=
  t.ch.toNat = j.val ∧ t.busy = true ∧ t.out = s.out ++ triggerActions j

/-- RESET apart, an operation keeps the sequencer and logs at most a commit, or is a START that triggers the repaired channel,
or a CONV_DONE that triggers the next one. -/
theorem exec_sequencer_cases {i : Instr} {s t : State} (hi : i ≠ .reset) (h : exec i s = .next t) :
    (completions [i] = 0 ∧ SameSequencer s t ∧ (t.out = s.out ∨ t.out = s.out ++ commitActions s)) ∨
    (completions [i] = 0 ∧ s.busy = false ∧ TriggeredOn (repairedChannel s.ch) s t) ∨
    (completions [i] = 1 ∧ s.busy = true ∧ TriggeredOn (nextChannel (repairedChannel s.ch)) s t) := by
  by_cases hw : writes i .sequencer = true
  · obtain rfl | ⟨n, rfl⟩ := (writes_sequencer_iff.1 hw).resolve_left hi
    · obtain ⟨-, rfl⟩ | ⟨hbusy, rfl⟩ := execStart_cases h
      · exact .inl ⟨rfl, ⟨rfl, rfl⟩, .inl rfl⟩
      · rw [trigger_eq]
        exact .inr (.inl ⟨rfl, hbusy, setCh_toNat s _, rfl, rfl⟩)
    · obtain ⟨-, hbusy, -, -, -, -, -, -, htbusy, hout, hch⟩ := execConvDone_cases h
      exact .inr (.inr ⟨rfl, hbusy, hch ▸ setCh_toNat s _, htbusy, hout⟩)
  · have hcompl : completions [i] = 0 := by
      cases i with
      | convDone n => exact absurd rfl hw
      | _ => rfl
    exact .inl ⟨hcompl, agree_of_not_writes (u := .sequencer) hw h, out_of_not_writes_sequencer hw h⟩

/-! ### Boot (70 R193) -/

/-- Settles O15: after RESET the index is 0 and no conversion is outstanding, so START triggers channel 0. -/
theorem bootStartsSamplingChannelZero : Obligations.BootStartsSamplingChannelZero := by
  intro s
  obtain ⟨hchan, hlatch, hcmp, hset⟩ := repair_trigger_frame s.resetRegisters 0
  exact ⟨_, rfl, rfl, rfl, by rw [trigger_eq]; rfl, hchan, hlatch, hcmp, hset⟩

/-! ### Triggers and completions (40 R89) -/

theorem busyCount_congr {s t : State} (h : t.busy = s.busy) : busyCount t = busyCount s := by
  rw [busyCount, h, busyCount]

theorem triggers_append (xs ys : List Action) : triggers (xs ++ ys) = triggers xs + triggers ys := List.count_append

theorem triggers_of_exec {i : Instr} {s t : State} (hi : i ≠ .reset) (h : exec i s = .next t) :
    triggers t.out + busyCount s = triggers s.out + completions [i] + busyCount t := by
  obtain ⟨hcompl, ⟨-, hbusy⟩, hout⟩ | ⟨hcompl, hs, -, ht, hout⟩ | ⟨hcompl, hs, -, ht, hout⟩ := exec_sequencer_cases hi h
  · have hbusyCount := busyCount_congr hbusy
    have htriggers : triggers t.out = triggers s.out := by
      obtain hout | hout := hout
      · rw [hout]
      · rw [hout, triggers_append]
        rfl
    omega
  all_goals
    have htriggers : triggers t.out = triggers s.out + 1 := by rw [hout, triggers_append]; rfl
    simp only [busyCount, hs, ht, if_true, Bool.false_eq_true, if_false]
    omega

theorem triggers_of_execAll {is : List Instr} {s t : State} (hreset : .reset ∉ is) (h : execAll is s = .next t) :
    triggers t.out + busyCount s = triggers s.out + completions is + busyCount t := by
  have hcount := execAll_keeps_counting (k := 0)
    (P := fun k m => triggers m.out + busyCount s = triggers s.out + k + busyCount m)
    (fun i hi k m u hm hu => by have := triggers_of_exec (ne_of_mem_of_not_mem hi hreset) hu; omega) rfl h
  rwa [Nat.zero_add] at hcount

/-- Settles O22: each trigger sets `busy`, and each completion uses it up and triggers again. -/
theorem atMostOneConversionOutstanding : Obligations.AtMostOneConversionOutstanding := by
  refine ⟨fun is s t => triggers_of_execAll, fun c is t hreset h => ⟨?_, ?_⟩⟩
  · have hcount := triggers_of_execAll hreset h
    have hbusy : busyCount (State.powerOn c) = 0 := rfl
    have hnone : triggers (State.powerOn c).out = 0 := rfl
    omega
  · unfold busyCount
    split_ifs <;> decide

/-! ### The order of the channels (40 R88) -/

theorem selections_append (xs ys : List Action) : selections (xs ++ ys) = selections xs ++ selections ys := by
  induction xs using selections.induct with
  | case1 => rfl
  | case2 i xs ih => exact congrArg (i :: ·) ih
  | case3 xs ih => exact ih
  | case4 a v xs ih => exact ih

theorem SelThenTrig.append {xs ys : List Action} (hxs : SelThenTrig xs) (hys : SelThenTrig ys) : SelThenTrig (xs ++ ys) := by
  induction xs using SelThenTrig.induct with
  | case1 => exact hys
  | case2 i xs ih => exact ih hxs
  | case3 i xs hnot => exact absurd hxs (by unfold SelThenTrig; split <;> simp_all)
  | case4 xs ih => exact ih hxs
  | case5 a v xs ih => exact ih hxs

/-- The first `n` channels of the round robin 0, 1, 0, 1, … -/
def roundRobin (n : Nat) : List Nat := (List.range n).map (· % 2)

theorem roundRobin_succ (n : Nat) : roundRobin (n + 1) = roundRobin n ++ [n % 2] := by
  simp [roundRobin, List.range_succ]

/-- After `k` completions the index is `k mod 2` and the channels selected are the round robin, the selection for the
outstanding conversion included, each with its trigger. -/
structure InRoundRobin (k : Nat) (s : State) : Prop where
  ch : s.ch.toNat = k % 2
  selected : (selections s.out).map Fin.val = roundRobin (k + busyCount s)
  selThenTrig : SelThenTrig s.out

theorem InRoundRobin.repairedChannel_val {k : Nat} {s : State} (h : InRoundRobin k s) : (repairedChannel s.ch).val = k % 2 := by
  rw [repairedChannel_of_lt, h.ch]
  rw [h.ch]
  exact Nat.mod_lt k (by decide)

theorem InRoundRobin.of_triggers {k n : Nat} {s t : State} {j : Channel} (hs : InRoundRobin k s)
    (hn : k + busyCount s = n) (hj : j.val = n % 2) (ht : TriggeredOn j s t) : InRoundRobin n t := by
  subst hn
  obtain ⟨hch, hbusy, hout⟩ := ht
  refine ⟨hch.trans hj, ?_, ?_⟩
  · have hcount : busyCount t = 1 := if_pos hbusy
    rw [hcount, roundRobin_succ, ← hs.selected, ← hj, hout, selections_append, List.map_append]
    rfl
  · rw [hout]
    exact hs.selThenTrig.append trivial

theorem inRoundRobin_of_exec {i : Instr} {k : Nat} {s t : State} (hi : i ≠ .reset) (hs : InRoundRobin k s)
    (h : exec i s = .next t) : InRoundRobin (k + completions [i]) t := by
  have hval := hs.repairedChannel_val
  obtain ⟨hcompl, ⟨hch, hbusy⟩, hout⟩ | ⟨hcompl, hidle, ht⟩ | ⟨hcompl, hbusy, ht⟩ := exec_sequencer_cases hi h
  · have hcount := busyCount_congr hbusy
    rw [hcompl]
    obtain hout | hout := hout
    · exact ⟨hch ▸ hs.ch, by rw [hout, hcount]; exact hs.selected, hout ▸ hs.selThenTrig⟩
    · refine ⟨hch ▸ hs.ch, ?_, hout ▸ hs.selThenTrig.append trivial⟩
      have hnone : selections (commitActions s) = [] := rfl
      rw [hout, hcount, selections_append, hnone, List.append_nil]
      exact hs.selected
  · rw [hcompl]
    exact hs.of_triggers (by simp [busyCount, hidle]) hval ht
  · rw [hcompl]
    refine hs.of_triggers (by simp [busyCount, hbusy]) ?_ ht
    rw [nextChannel_val, hval]
    omega

theorem inRoundRobin_of_execAll {c : Config} {is : List Instr} {t : State} (hreset : .reset ∉ is)
    (h : execAll is (State.powerOn c) = .next t) : InRoundRobin (completions is) t := by
  have hstart : InRoundRobin 0 (State.powerOn c) := ⟨rfl, rfl, trivial⟩
  have hcount := execAll_keeps_counting (P := InRoundRobin) (fun i hi _ _ _ hm hu =>
    inRoundRobin_of_exec (ne_of_mem_of_not_mem hi hreset) hm hu) hstart h
  rwa [Nat.zero_add] at hcount

/-- Settles O21: the round robin is kept by every event, and a completion changes no channel but the one of the index. -/
theorem roundRobinVisitingOrder : Obligations.RoundRobinVisitingOrder := by
  intro c is t hreset h
  have ht := inRoundRobin_of_execAll hreset h
  refine ⟨fun k i hk => ?_, ht.selThenTrig, ht.ch, fun n u hu j hj => ?_⟩
  · have hval : (roundRobin (completions is + busyCount t))[k]? = some i.val := by
      rw [← ht.selected, List.getElem?_map, hk, Option.map_some]
    obtain ⟨hlt, hget⟩ := List.getElem?_eq_some_iff.1 hval
    simpa [roundRobin] using hget.symm
  · by_contra hne
    rw [eq_repairedChannel_of_not_sameChannel hu hne, ht.repairedChannel_val] at hj
    exact hj rfl

/-! ### The stall (40 R92) -/

/-- Settles O23: only CONV_DONE writes a channel, and while a conversion is outstanding START writes nothing. -/
theorem lostCompletionStallsSampling : Obligations.LostCompletionStallsSampling := by
  intro is s t hbusy hreset hcompl h
  have hseq : SameSequencer s t := by
    refine execAll_keeps (P := SameSequencer s) (fun i hi m u hm hu => ?_) ⟨rfl, rfl⟩ h
    by_cases hw : writes i .sequencer = true
    · obtain rfl | rfl | ⟨n, rfl⟩ := writes_sequencer_iff.1 hw
      · exact absurd hi hreset
      · rw [exec_start_of_busy (hm.2.trans hbusy)] at hu
        cases hu
        exact hm
      · exact absurd hi (convDone_not_mem_of_completions_eq_zero hcompl n)
    · exact (agree_equivalence .sequencer).trans hm (agree_of_not_writes hw hu)
  refine ⟨hseq, fun j => agree_of_execAll_not_writes (u := .channel j) (fun i hi hw => ?_) h,
    exec_start_of_busy (hseq.2.trans hbusy)⟩
  obtain rfl | ⟨n, rfl⟩ := writes_channel_iff.1 hw
  · exact hreset hi
  · exact convDone_not_mem_of_completions_eq_zero hcompl n hi

/-! ### The environment's contract (60_exceptions R173) -/

theorem exec_convDone_of_sampleMax_lt {s : State} {n : Nat} (hn : s.cfg.sampleMax < n) :
    exec (.convDone n) s = .refused .sampleOutOfRange := by
  simp only [exec, execConvDone, if_pos hn]

/-- Settles O19: the two refusals of CONV_DONE, the operand's first. -/
theorem strayCompletionIsRefused : Obligations.StrayCompletionIsRefused := fun _ _ =>
  ⟨fun hbusy hn => exec_convDone_of_not_busy hn hbusy, exec_convDone_of_sampleMax_lt⟩

/-- An operation has a next state exactly when the contract covers it. -/
theorem exec_next_iff_served {i : Instr} {s : State} : (∃ t, exec i s = .next t) ↔ Served i s := by
  cases i with
  | nop | pwmOvf | reset => exact iff_of_true ⟨_, rfl⟩ trivial
  | start =>
    refine iff_of_true ?_ trivial
    cases hbusy : s.busy with
    | true => exact ⟨s, exec_start_of_busy hbusy⟩
    | false => exact ⟨_, exec_start_of_not_busy hbusy⟩
  | convDone n =>
    refine ⟨fun ⟨t, h⟩ => ?_, fun ⟨hbusy, hn⟩ => execConvDone_next hbusy hn⟩
    obtain ⟨hn, hbusy, -⟩ := execConvDone_cases h
    exact ⟨hbusy, hn⟩
  | poll b =>
    simp only [Served, exec, execPoll]
    cases s.bstate <;> simp
  | msTick =>
    simp only [Served, exec, execMsTick]
    cases s.bstate <;> simp

/-- Under the invariants the contract asks something of CONV_DONE only: the latch's pattern is valid. -/
theorem served_iff_of_inv {i : Instr} {s : State} (hs : Inv s) :
    Served i s ↔ ∀ n, i = .convDone n → s.busy = true ∧ n ≤ s.cfg.sampleMax := by
  cases i with
  | convDone n => simp [Served]
  | poll b | msTick => simp [Served, hs.bstate_valid]
  | nop | start | pwmOvf | reset => simp [Served]

/-- A run is served to its end exactly when each of its events is, in the state it meets. -/
theorem execAll_next_iff {is : List Instr} {s : State} :
    (∃ t, execAll is s = .next t) ↔
      ∀ before i after m, is = before ++ i :: after → execAll before s = .next m → ∃ u, exec i m = .next u := by
  induction is generalizing s with
  | nil => simp [execAll]
  | cons j js ih =>
    constructor
    · rintro ⟨t, h⟩ before i after m his hbefore
      obtain ⟨u, hu, hrest⟩ := execAll_cons_eq_next_iff.1 h
      cases before with
      | nil =>
        cases his
        cases hbefore
        exact ⟨u, hu⟩
      | cons b before =>
        obtain ⟨rfl, hjs⟩ := List.cons.inj his
        obtain ⟨u', hu', hbefore'⟩ := execAll_cons_eq_next_iff.1 hbefore
        cases hu.symm.trans hu'
        exact ih.1 ⟨t, hrest⟩ before i after m hjs hbefore'
    · intro hserved
      obtain ⟨u, hu⟩ := hserved [] j js s rfl rfl
      obtain ⟨t, ht⟩ := ih.2 fun before i after m hjs hbefore =>
        hserved (j :: before) i after m (by rw [hjs]; rfl) (execAll_cons_eq_next_iff.2 ⟨u, hu, hbefore⟩)
      exact ⟨t, execAll_cons_eq_next_iff.2 ⟨u, hu, ht⟩⟩

/-- Settles O48: every state a run from power-on meets keeps the invariants and the configuration. -/
theorem contractIsExactlyWhatIsServed : Obligations.ContractIsExactlyWhatIsServed := by
  refine ⟨fun i s hs => exec_next_iff_served.trans (served_iff_of_inv hs), fun is c hwf => execAll_next_iff.trans ?_⟩
  refine forall₄_congr fun before i after m => imp_congr_right fun _ => imp_congr_right fun hbefore => ?_
  have hm : Inv m := inv_of_execAll (inv_powerOn hwf) hbefore
  have hcfg : m.cfg = c := execAll_cfg hbefore
  rw [exec_next_iff_served, served_iff_of_inv hm, hcfg]

/-! ### The commit (42 R125) -/

/-- Settles O34: the second commit copies the same values, RESET writes constants, and START leaves `busy` set. -/
theorem secondCommitResetOrStartChangesNothing : Obligations.SecondCommitResetOrStartChangesNothing := by
  refine fun s => ⟨?_, ⟨_, exec_reset s, exec_reset _⟩, ?_⟩
  · obtain ⟨t, ht, hcopy⟩ := exec_pwmOvf_cmp s
    obtain ⟨u, hu, hcopy'⟩ := exec_pwmOvf_cmp t
    have hduty : ∀ a, t.duty a = s.duty a := by
      cases ht
      simp [State.commit]
    have hkeep {v : RegUnit} (hv : writes .pwmOvf v ≠ true) : Agree v t u := agree_of_not_writes hv hu
    refine ⟨t, u, ht, hu, hkeep (v := .sequencer) nofun, fun j => hkeep (v := .channel j) nofun, hkeep (v := .latch) nofun,
      fun a => ?_⟩
    rw [hcopy', hcopy, hduty]
  · cases hbusy : s.busy with
    | true => exact ⟨s, exec_start_of_busy hbusy, exec_start_of_busy hbusy⟩
    | false => exact ⟨_, exec_start_of_not_busy hbusy, exec_start_of_busy rfl⟩

/-- A value in a compare register was there before the operation, or is the duty-cycle value a commit copied. -/
theorem exec_cmp_cases {i : Instr} {s t : State} {a : Axis} {v : Tick} (h : exec i s = .next t) (hv : t.cmp a = some v) :
    s.cmp a = some v ∨ (i = .pwmOvf ∧ s.duty a = v) := by
  by_cases hsame : SameCompare s t
  · exact .inl ((hsame a).symm.trans hv)
  · have hw : writes i .compare = true := writes_of_not_agree (u := .compare) h hsame
    obtain rfl | rfl := writes_compare_iff.1 hw
    · have hnone : ∀ a, s.resetRegisters.cmp a = none := forall_axis.2 ⟨rfl, rfl, rfl⟩
      rw [eq_resetRegisters_of_exec_reset h, hnone] at hv
      cases hv
    · exact .inr ⟨rfl, Option.some.inj ((pwmOvf_cmp h a).symm.trans hv)⟩

/-- Settles O36: the last event that wrote the register was a PWM_OVF of the run, or none was. -/
theorem committedValuesWereDutyValues : Obligations.CommittedValuesWereDutyValues := by
  intro is s t a v h hv
  induction is generalizing s with
  | nil => cases h; exact .inl hv
  | cons i is ih =>
    obtain ⟨m, hm, hrest⟩ := execAll_cons_eq_next_iff.1 h
    obtain hmv | ⟨before, after, m', rfl, hbefore, hduty⟩ := ih m hrest
    · obtain hsv | ⟨rfl, hduty⟩ := exec_cmp_cases hm hmv
      · exact .inl hsv
      · exact .inr ⟨[], is, s, rfl, rfl, hduty⟩
    · exact .inr ⟨i :: before, after, m', rfl, execAll_cons_eq_next_iff.2 ⟨m, hm, hbefore⟩, hduty⟩

/-! ### A commit next to a completion (20_memory R58) -/

theorem convDone_out {s t : State} {n : Nat} (h : exec (.convDone n) s = .next t) :
    t.out = s.out ++ triggerActions (repairedChannel s.ch + 1) := by
  obtain ⟨-, -, -, -, -, -, -, -, -, hout, -⟩ := execConvDone_cases h
  exact hout

/-- Settles O37: PWM_OVF keeps all that CONV_DONE reads and writes, and the log it adds to is read by neither. -/
theorem commitSeesOldOrNewTick : Obligations.CommitSeesOldOrNewTick := by
  intro s n i hbusy hn hi
  obtain rfl : i = repairedChannel s.ch := eq_repairedChannel hi
  obtain ⟨t, ht⟩ := execConvDone_next hbusy hn
  obtain ⟨u, hu, hcopy⟩ := exec_pwmOvf_cmp t
  obtain ⟨t', ht', hcopy'⟩ := exec_pwmOvf_cmp s
  have hkeep {v : RegUnit} (hv : writes .pwmOvf v ≠ true) : Agree v s t' := agree_of_not_writes hv ht'
  have hseq : SameSequencer s t' := hkeep (v := .sequencer) nofun
  have hcfg : t'.cfg = s.cfg := cfg_of_exec ht'
  obtain ⟨u', hu'⟩ := execConvDone_next (hseq.2.trans hbusy) (hcfg ▸ hn)
  have hback {v : RegUnit} (hv : writes .pwmOvf v ≠ true) (hend : Agree v t u') : Agree v u u' :=
    (agree_equivalence v).trans ((agree_equivalence v).symm (agree_of_not_writes hv hu)) hend
  refine ⟨t, u, t', u', ht, hu, ht', hu', hcopy, fun a => ?_,
    hback (v := .sequencer) nofun (exec_sameSequencer hcfg ht hu' hseq),
    fun j => hback (v := .channel j) nofun (exec_sameChannel hcfg ht hu' hseq (hkeep (v := .channel j) nofun)),
    hback (v := .latch) nofun (exec_sameLatch hcfg ht hu' (hkeep (v := .latch) nofun)), ?_, ?_, ?_⟩
  · have hcmp : SameCompare t' u' := agree_of_not_writes (i := .convDone n) (u := .compare) nofun hu'
    rw [hcmp a, hcopy']
  · have hleft := (exec_sameSetting ht).trans (exec_sameSetting hu)
    exact hleft.symm.trans ((exec_sameSetting ht').trans (exec_sameSetting hu'))
  · rw [pwmOvf_out hu, convDone_out ht]
    rfl
  · rw [convDone_out hu', pwmOvf_out ht', hseq.1]
    rfl

/-! ### The channels over runs (41 R100, R108) -/

/-- Settles O29: the position and the tick written are functions of the configuration, the sample and the old position. -/
theorem channelsAreIndependent : Obligations.ChannelsAreIndependent := by
  intro s s' t t' n i hcfg hi hi' hpos h h'
  obtain ⟨-, -, htpos, htduty, -⟩ := execConvDone_cases h
  obtain ⟨-, -, htpos', htduty', -⟩ := execConvDone_cases h'
  rw [← eq_repairedChannel hi] at htpos htduty
  rw [← eq_repairedChannel hi'] at htpos' htduty'
  have hsame : t'.pos i = t.pos i := by rw [htpos', htpos, hpos, hcfg]
  exact ⟨hsame, by rw [htduty', htduty, hsame, hcfg]⟩

/-- In a state that meets the invariants a dead-zone completion writes back what was there. -/
theorem sameChannel_of_convDone_deadZone {s t : State} {n : Nat} (hs : Inv s) (hlow : s.cfg.tLow ≤ n) (hhigh : n ≤ s.cfg.tHigh)
    (h : exec (.convDone n) s = .next t) (j : Channel) : SameChannel j s t := by
  obtain ⟨-, -, hpos, hduty, hother, -⟩ := execConvDone_cases h
  by_cases hj : j = repairedChannel s.ch
  · subst hj
    rw [integrateQ_of_deadZone (hs.pos_le _) hlow hhigh] at hpos
    exact ⟨hpos, by rw [hduty, hpos, hs.duty_map]⟩
  · exact hother j hj

/-- Settles O28: the invariants and the configuration reach every completion of the run, and no other event but RESET writes
a channel. -/
theorem deadZoneRunMovesNothing : Obligations.DeadZoneRunMovesNothing := by
  intro is s t hs hreset hzone h j
  have equiv := agree_equivalence (.channel j)
  have hkept : Inv t ∧ t.cfg = s.cfg ∧ SameChannel j s t := by
    refine execAll_keeps (P := fun m => Inv m ∧ m.cfg = s.cfg ∧ SameChannel j s m) (fun i hi m u hm hu => ?_)
      ⟨hs, rfl, equiv.refl s⟩ h
    obtain ⟨hinv, hcfg, hsame⟩ := hm
    refine ⟨inv_of_exec hinv hu, (cfg_of_exec hu).trans hcfg, equiv.trans hsame ?_⟩
    by_cases hw : writes i (.channel j) = true
    · obtain rfl | ⟨n, rfl⟩ := writes_channel_iff.1 hw
      · exact absurd hi hreset
      · obtain ⟨hlow, hhigh⟩ := hzone n hi
        exact sameChannel_of_convDone_deadZone hinv (hcfg ▸ hlow) (hcfg ▸ hhigh) hu j
    · exact agree_of_not_writes hw hu
  exact hkept.2.2

end Sys2Proof.Machine

/-! PROOFS. The latch over whole presses (43 R144) and scenario 1 of the source (00_scope R12). -/

namespace Sys2Proof.Machine

/-! ### The claw (43 R144) -/

theorem flipClaw_ne (k : Claw) : flipClaw k ≠ k := by cases k <;> nofun

theorem flipClaw_flipClaw (k : Claw) : flipClaw (flipClaw k) = k := by cases k <;> rfl

theorem toggle_claw (s : State) : s.toggle.claw = flipClaw s.claw := rfl

theorem toggle_bstate (s : State) : s.toggle.bstate = .pressed := rfl

theorem exec_poll_true_of_idle {s : State} (h : s.bstate = .idle) : exec (.poll true) s = .next s.toggle :=
  exec_poll_of_idle h true

/-- Settles O42: of the latch's transitions only the toggle writes the claw, and it is taken at every POLL 1 in `IDLE`. -/
theorem clawFlipsExactlyAtAssertedPollInIdle : Obligations.ClawFlipsExactlyAtAssertedPollInIdle := by
  refine fun i s t hi h => ⟨fun hne => ?_, ?_⟩
  · obtain ⟨-, hclaw, -⟩ | ⟨hpoll, hidle, -⟩ | ⟨-, -, rfl⟩ | ⟨-, -, rfl⟩ | ⟨hreset, -⟩ := exec_latch_cases h
    · exact absurd hclaw hne
    · exact ⟨hpoll, hidle⟩
    · obtain ⟨-, -, -, -, hclaw, -⟩ := release_frame s
      exact absurd hclaw hne
    · obtain ⟨-, -, -, -, hclaw, -⟩ := settleTick_frame s
      exact absurd hclaw hne
    · exact absurd hreset hi
  · rintro ⟨rfl, hidle⟩
    cases (exec_poll_true_of_idle hidle).symm.trans h
    exact flipClaw_ne s.claw

/-- An idle latch is left by the asserted reading and by RESET only. -/
theorem sameLatch_of_idle {i : Instr} {s t : State} (hs : s.bstate = .idle) (hpoll : i ≠ .poll true) (hreset : i ≠ .reset)
    (h : exec i s = .next t) : SameLatch s t := by
  obtain ⟨-, hkept⟩ | ⟨hi, -⟩ | ⟨-, hpressed, -⟩ | ⟨-, hsettle, -⟩ | ⟨hi, -⟩ := exec_latch_cases h
  · exact hkept
  · exact absurd hi hpoll
  · simp [hs] at hpressed
  · simp [hs] at hsettle
  · exact absurd hi hreset

/-- Settles O43: the latch is idle up to the first POLL 1, and pressed from there on. -/
theorem oneTogglePerPress : Obligations.OneTogglePerPress := by
  intro is s t hidle hmem hrelease hreset h
  induction is generalizing s with
  | nil => cases hmem
  | cons i is ih =>
    obtain ⟨hi, his⟩ := List.ne_and_not_mem_of_not_mem_cons hreset
    obtain ⟨-, hrelease'⟩ := List.ne_and_not_mem_of_not_mem_cons hrelease
    obtain ⟨m, hm, hrest⟩ := execAll_cons_eq_next_iff.1 h
    by_cases hpoll : i = .poll true
    · subst hpoll
      cases (exec_poll_true_of_idle hidle).symm.trans hm
      obtain ⟨hclaw, hstate, -, hduty⟩ := sameLatch_of_execAll_pressed (toggle_bstate s) hrelease' his hrest
      exact ⟨hclaw, hstate, by rw [hduty, hclaw, toggle_duty_claw]⟩
    · obtain ⟨hclaw, hstate, -⟩ := sameLatch_of_idle hidle hpoll hi.symm hm
      have hmem' : .poll true ∈ is := (List.mem_cons.1 hmem).resolve_left (Ne.symm hpoll)
      rw [← cfg_of_exec hm, ← hclaw]
      exact ih m (hstate.trans hidle) hmem' hrelease' his hrest

/-! ### A bounce during a press -/

theorem execAll_append_eq_next_iff {xs ys : List Instr} {s t : State} :
    execAll (xs ++ ys) s = .next t ↔ ∃ m, execAll xs s = .next m ∧ execAll ys m = .next t := by
  induction xs generalizing s with
  | nil => simp [execAll]
  | cons i xs ih =>
    simp only [List.cons_append, execAll_cons_eq_next_iff, ih]
    exact ⟨fun ⟨u, hu, m, hm, ht⟩ => ⟨m, ⟨u, hu, hm⟩, ht⟩, fun ⟨m, ⟨u, hu, hm⟩, ht⟩ => ⟨u, hu, m, hm, ht⟩⟩

/-- A run without CONV_DONE asks of the state only that the latch's pattern is valid, which every operation keeps. -/
theorem execAll_next_of_no_convDone {is : List Instr} {s : State} (his : ∀ n, .convDone n ∉ is) (hs : s.bstate ≠ .invalid) :
    ∃ t, execAll is s = .next t := by
  refine execAll_next_iff.2 fun before i after m hsplit hbefore => exec_next_iff_served.2 ?_
  have hm : m.bstate ≠ .invalid := execAll_keeps (P := fun m => m.bstate ≠ .invalid)
    (fun i _ m u hm hu hinvalid => hm (invalidLatchPatternIsRefused.2 i m u hu hinvalid)) hs hbefore
  cases i with
  | convDone n => exact absurd (by simp [hsplit]) (his n)
  | poll b | msTick => exact hm
  | nop | start | pwmOvf | reset => trivial

theorem repeatEvents_succ (k : Nat) (is : List Instr) : repeatEvents (k + 1) is = repeatEvents k is ++ is := by
  simp [repeatEvents, List.replicate_succ']

theorem mem_of_mem_repeatEvents {i : Instr} {k : Nat} {is : List Instr} (h : i ∈ repeatEvents k is) : i ∈ is := by
  obtain ⟨js, hjs, hi⟩ := List.mem_flatten.1 h
  rwa [List.eq_of_mem_replicate hjs] at hi

theorem ticks_hold (k : Nat) : ticks (Pseudo.hold k).expand = k := by
  simp only [Pseudo.expand]
  induction k with
  | zero => rfl
  | succ k ih =>
    rw [repeatEvents_succ, ticks, List.count_append]
    exact congrArg (· + 1) ih

theorem not_mem_hold {i : Instr} {k : Nat} (h : i ∉ [Instr.msTick, .poll true]) : i ∉ (Pseudo.hold k).expand :=
  fun hmem => h (mem_of_mem_repeatEvents hmem)

theorem execAll_press_release {s : State} (hidle : s.bstate = .idle) (is : List Instr) :
    execAll (Pseudo.press.expand ++ Pseudo.release.expand ++ is) s = execAll is s.toggle.release := by
  simp [Pseudo.expand, execAll, exec_poll_true_of_idle hidle, exec_poll_of_pressed (toggle_bstate s)]

/-- Short of the last tick of the settle interval, the press has flipped the claw once and the hold changes nothing of it. -/
theorem execAll_press_release_hold {s : State} {k : Nat} (hidle : s.bstate = .idle) (hk : k < s.cfg.settleMs) :
    ∃ m, execAll (Pseudo.press.expand ++ Pseudo.release.expand ++ (Pseudo.hold k).expand) s = .next m ∧
      m.claw = flipClaw s.claw ∧ m.bstate = .settle ∧ m.settleCount + k = s.cfg.settleMs ∧
      m.duty clawAxis = clawTick s.cfg (flipClaw s.claw) := by
  have hstate : s.toggle.release.bstate ≠ .invalid := by
    rw [release_bstate]
    split_ifs <;> simp
  obtain ⟨m, hm⟩ := execAll_next_of_no_convDone (fun n => not_mem_hold (i := .convDone n) (k := k) (by simp)) hstate
  obtain ⟨hsettle, hcount, hclaw, hduty⟩ :=
    execAll_of_release (s := s.toggle) (not_mem_hold (by decide)) ((ticks_hold k).trans_lt hk) hm
  rw [ticks_hold] at hcount
  exact ⟨m, (execAll_press_release hidle _).trans hm, hclaw, hsettle, hcount, hduty.trans (toggle_duty_claw s)⟩

/-- The last tick of the interval leads to `IDLE`, where the hold's own POLL 1 is a second press. -/
theorem execAll_last_tick_and_poll {m : State} (hsettle : m.bstate = .settle) (hcount : m.settleCount = 1) :
    ∃ u, exec .msTick m = .next u ∧ u.claw = m.claw ∧ u.bstate = .idle ∧ exec (.poll true) u = .next u.toggle := by
  obtain ⟨-, -, -, -, hclaw, -⟩ := settleTick_frame m
  have hidle : m.settleTick.bstate = .idle := by rw [settleTick_bstate, if_pos hcount.le]
  exact ⟨_, exec_msTick_of_settle hsettle, hclaw, hidle, exec_poll_true_of_idle hidle⟩

/-- Settles O44: the hold outlasts the settle interval by its last POLL 1, which finds the latch idle. -/
theorem bounceOnPressFlipsTwice : Obligations.BounceOnPressFlipsTwice := by
  intro s hidle hms
  refine ⟨⟨s.toggle, ?_, toggle_claw s, toggle_bstate s, toggle_duty_claw s⟩, fun k => execAll_press_release_hold hidle, ?_⟩
  · simp [Pseudo.expand, execAll, exec_poll_true_of_idle hidle]
  · obtain ⟨m, hm, hclaw, hsettle, hcount, -⟩ := execAll_press_release_hold (k := s.cfg.settleMs - 1) hidle (by omega)
    obtain ⟨u, hu, huclaw, huidle, hpoll⟩ := execAll_last_tick_and_poll hsettle (by omega)
    have hucfg : u.cfg = s.cfg := (cfg_of_exec hu).trans (execAll_cfg hm)
    have hback : u.toggle.claw = s.claw := by rw [toggle_claw, huclaw, hclaw, flipClaw_flipClaw]
    have hhold : (Pseudo.hold s.cfg.settleMs).expand =
        (Pseudo.hold (s.cfg.settleMs - 1)).expand ++ [.msTick, .poll true] := by
      conv_lhs => rw [← Nat.sub_add_cancel hms]
      exact repeatEvents_succ _ _
    have htick : execAll [.msTick] m = .next u := execAll_cons_eq_next_iff.2 ⟨u, hu, rfl⟩
    have hlast : execAll [.msTick, .poll true] m = .next u.toggle :=
      execAll_cons_eq_next_iff.2 ⟨u, hu, execAll_cons_eq_next_iff.2 ⟨_, hpoll, rfl⟩⟩
    refine ⟨u, u.toggle, execAll_append_eq_next_iff.2 ⟨m, hm, htick⟩, huclaw.trans hclaw, huidle, hpoll, ?_, toggle_claw u,
      hback, toggle_bstate u, ?_⟩
    · rw [hhold, ← List.append_assoc]
      exact execAll_append_eq_next_iff.2 ⟨m, hm, hlast⟩
    · rw [toggle_duty_claw, hback, hucfg]

/-! ### Scenario 1 (00_scope R12) -/

/-- A completion in a running sequencer: channel `i` is integrated and the next one is up. -/
theorem exec_convDone_of_ch {s : State} {n : Nat} {i : Channel} (hbusy : s.busy = true) (hn : n ≤ s.cfg.sampleMax)
    (hch : s.ch.toNat = i.val) : ∃ t, exec (.convDone n) s = .next t ∧ t.busy = true ∧ t.ch.toNat = (nextChannel i).val ∧
      t.pos i = integrateQ s.cfg (s.pos i) n ∧ ∀ j, j ≠ i → t.pos j = s.pos j := by
  obtain ⟨t, ht⟩ := execConvDone_next hbusy hn
  obtain ⟨-, -, hpos, -, hother, -, -, -, htbusy, -, htch⟩ := execConvDone_cases ht
  have hi : repairedChannel s.ch = i := Fin.ext ((repairedChannel_of_lt (hch ▸ i.isLt)).trans hch)
  rw [hi] at hpos hother htch
  exact ⟨t, ht, htbusy, htch ▸ setCh_toNat s _, hpos, fun j hj => (hother j hj).1⟩

/-- Each two completions from channel 0 on integrate each of the two channels once. -/
theorem execAll_replicate_convDone {s : State} {n : Nat} (hbusy : s.busy = true) (hn : n ≤ s.cfg.sampleMax)
    (hch : s.ch.toNat = 0) (k : Nat) : ∃ t, execAll (List.replicate (2 * k) (.convDone n)) s = .next t ∧
      ∀ i, t.pos i = (fun p => integrateQ s.cfg p n)^[k] (s.pos i) := by
  induction k generalizing s with
  | zero => exact ⟨s, rfl, fun _ => rfl⟩
  | succ k ih =>
    obtain ⟨m, hm, hmbusy, hmch, hm0, hm1⟩ := exec_convDone_of_ch (i := 0) hbusy hn hch
    have hmcfg : m.cfg = s.cfg := cfg_of_exec hm
    obtain ⟨u, hu, hubusy, huch, hu1, hu0⟩ := exec_convDone_of_ch (i := 1) hmbusy (hmcfg ▸ hn) hmch
    have hucfg : u.cfg = s.cfg := (cfg_of_exec hu).trans hmcfg
    obtain ⟨t, ht, hpos⟩ := ih hubusy (hucfg ▸ hn) huch
    refine ⟨t, ?_, fun i => ?_⟩
    · rw [Nat.mul_succ, List.replicate_succ, List.replicate_succ]
      exact execAll_cons_eq_next_iff.2 ⟨m, hm, execAll_cons_eq_next_iff.2 ⟨u, hu, ht⟩⟩
    · have hupos : u.pos i = integrateQ s.cfg (s.pos i) n := by
        revert i
        exact forall_channel.2 ⟨by rw [hu0 0 (by decide), hm0], by rw [hu1, hm1 1 (by decide), hmcfg]⟩
      rw [hpos, hucfg, hupos, Function.iterate_succ_apply]

/-- In a state that meets the invariants a channel at `POSITION_MAX` has the tick `TICK_MAX`. -/
theorem duty_of_position_eq_positionMax {t : State} {i : Channel} (ht : Inv t)
    (h : position t.cfg (t.pos i) = t.cfg.positionMax) :
    (t.duty (axisOf i)).toNat = (t.cfg.bounds (axisOf i)).max := by
  rw [ht.duty_map, mapDuty_toNat ht.cfg_wf, ← Nat.cast_inj (R := ℤ), mapTick_cast ht.cfg_wf, h, mapRat_positionMax ht.cfg_wf]

/-- Settles O27: each channel is integrated 100 times from `POS_INIT`, and the invariants give the tick. -/
theorem scenarioOneReachesTheTop : Obligations.ScenarioOneReachesTheTop := by
  intro c hwf
  have hstart : exec .start (State.powerOn c) = .next ((State.powerOn c).repairIndex.trigger 0) := exec_start_of_not_busy rfl
  obtain ⟨t, hrest, hpos⟩ := execAll_replicate_convDone (s := (State.powerOn c).repairIndex.trigger 0) (n := c.sampleMax)
    rfl le_rfl rfl 100
  have hrun := execAll_cons_eq_next_iff.2 ⟨_, hstart, hrest⟩
  have hcfg : t.cfg = c := execAll_cfg hrun
  have hinv : Inv t := inv_of_execAll (inv_powerOn hwf) hrun
  refine ⟨t, hrun, fun i => ?_⟩
  obtain ⟨hchan, -⟩ := repair_trigger_frame (State.powerOn c) 0
  have hposition : position c (t.pos i) = min (c.positionMax : ℚ) (c.posInit + 100 * c.rateMax) := by
    rw [hpos, (hchan i).1, powerOn_pos hwf]
    exact_mod_cast position_iterate_sampleMax hwf 100
  have htop : position c (t.pos i) = c.positionMax ↔ (c.positionMax : ℚ) ≤ c.posInit + 100 * c.rateMax := by
    rw [hposition, min_eq_left_iff]
  subst hcfg
  exact ⟨htop, fun hle => duty_of_position_eq_positionMax hinv (htop.2 hle)⟩

end Sys2Proof.Machine

/-! PROOFS. The encoding as a whole: the number of operation words (30_encoding R71), a step on a decoded trace (10_state R21)
and the text of a trace (30_encoding R73). -/

namespace Sys2Proof

/-! ### The non-reserved words (R71) -/

/-- Settles O1: each word is computed. -/
theorem tableWordsDecode : Obligations.TableWordsDecode :=
  ⟨rfl, rfl, rfl, rfl, rfl, rfl, rfl, rfl, rfl, rfl, rfl⟩

/-- The operations with an operand the encoding admits under a configuration: a completion for each sample, and seven more. -/
def wfInstrs (c : Config) : List Instr :=
  [.nop, .start, .pwmOvf, .poll false, .poll true, .msTick, .reset] ++ (List.range (c.sampleMax + 1)).map .convDone

theorem mem_wfInstrs_iff {c : Config} {i : Instr} : i ∈ wfInstrs c ↔ i.wf c = true := by
  cases i with
  | convDone n => simp [wfInstrs, Instr.wf]
  | poll b => cases b <;> simp [wfInstrs, Instr.wf]
  | nop | start | pwmOvf | msTick | reset => simp [wfInstrs, Instr.wf]

theorem length_wfInstrs (c : Config) : (wfInstrs c).length = c.sampleMax + 8 := by
  simp [wfInstrs]

theorem nodup_wfInstrs (c : Config) : (wfInstrs c).Nodup := by
  have hsamples : ((List.range (c.sampleMax + 1)).map Instr.convDone).Nodup :=
    List.nodup_range.map fun _ _ h => Instr.convDone.inj h
  refine List.Nodup.append (by decide) hsamples fun i hi hconv => ?_
  obtain ⟨n, -, rfl⟩ := List.mem_map.1 hconv
  simp at hi

theorem encode_inj_of_wf {c : Config} (hc : c.wf = true) {i j : Instr} (hi : i.wf c = true) (hj : j.wf c = true)
    (h : encode i = encode j) : i = j :=
  Except.ok.inj (((decode_eq_ok_iff_encode hc).2 ⟨hi, h⟩).symm.trans ((decode_eq_ok_iff_encode hc).2 ⟨hj, rfl⟩))

/-- Settles O4: the non-reserved words are the words of the well-formed operations, and these are spelt apart. -/
theorem nonReservedWordsAre1031 : Obligations.NonReservedWordsAre1031 := by
  have hc : Config.ref.wf = true := by decide
  refine ⟨(wfInstrs Config.ref).map encode, (nodup_wfInstrs _).map_on fun i hi j hj => ?_, ?_, fun w => ?_⟩
  · exact encode_inj_of_wf hc (mem_wfInstrs_iff.1 hi) (mem_wfInstrs_iff.1 hj)
  · rw [List.length_map, length_wfInstrs]
    rfl
  · simp only [List.mem_map, mem_wfInstrs_iff, decode_eq_ok_iff_encode hc]

/-! ### A decoded trace holds well-formed operations -/

theorem wf_of_mem_decodeAll {c : Config} {ws : List EventWord} {is : List Instr} (h : decodeAll c ws = .ok is) {i : Instr}
    (hi : i ∈ is) : i.wf c = true := by
  induction ws generalizing is with
  | nil => cases h; cases hi
  | cons w ws ih =>
    rw [decodeAll] at h
    split at h
    next j js hj hjs =>
      cases h
      obtain rfl | hmem := List.mem_cons.1 hi
      · exact (decode_eq_ok_iff.1 hj).1
      · exact ih hjs hmem
    next => cases h
    next => cases h

theorem wf_of_mem_decodeTrace {c : Config} {bytes : List Byte} {is : List Instr} (h : decodeTrace c bytes = .ok is) {i : Instr}
    (hi : i ∈ is) : i.wf c = true := by
  unfold decodeTrace at h
  split at h
  next => cases h
  next => exact wf_of_mem_decodeAll h hi

/-! ### Ten lines (00_scope R11) -/

/-- Line 6 over the rationals: `POS_INIT * Q` is an integer when the denominator divides. -/
theorem Config.line6_iff {c : Config} (hden : c.posInitDen ≠ 0) :
    c.line6 = true ↔ 0 ≤ c.posInit ∧ c.posInit ≤ c.positionMax ∧ ∃ k : ℤ, c.posInit * c.scale = k := by
  have hpos : (0 : ℚ) < c.posInitDen := by exact_mod_cast Nat.pos_of_ne_zero hden
  have hle : c.posInit ≤ c.positionMax ↔ c.posInitNum ≤ c.positionMax * c.posInitDen := by
    rw [Config.posInit, div_le_iff₀ hpos]
    exact_mod_cast Iff.rfl
  have hint : (∃ k : ℤ, c.posInit * c.scale = k) ↔ c.posInitNum * c.scale % c.posInitDen = 0 := by
    rw [← Nat.dvd_iff_mod_eq_zero, ← Int.natCast_dvd_natCast, dvd_def]
    refine exists_congr fun k => ?_
    rw [Config.posInit, div_mul_eq_mul_div, div_eq_iff hpos.ne', mul_comm (k : ℚ)]
    exact_mod_cast Iff.rfl
  have hnonneg : 0 ≤ c.posInit := Machine.posInit_nonneg c
  simp [Config.line6, hle, hint, hnonneg, Nat.pos_of_ne_zero hden]

theorem Config.line7_iff {c : Config} :
    c.line7 = true ↔ ∀ a, 0 ≤ (c.bounds a).min ∧ (c.bounds a).min ≤ (c.bounds a).max ∧ (c.bounds a).max < 2 ^ tickWidth := by
  simp [Machine.forall_axis, Config.line7, TickBounds.ok, Config.bounds, and_assoc]

/-- Settles O10: line by line; lines 1, 9 and 10 hold by the types. -/
theorem illFormedConfigurationIsRefused : Obligations.IllFormedConfigurationIsRefused := by
  refine ⟨fun c hden => ?_, fun c hden => ?_, fun s hs => ?_⟩
  · have hline1 : Config.line1 = true := rfl
    have hline9 : c.line9 = true := by simp [Config.line9]
    have hline10 : Config.line10 = true := rfl
    simp only [Config.wf, hline1, hline9, hline10, Bool.and_eq_true, Config.line6_iff hden, Config.line7_iff, Config.line2,
      Config.line3, Config.line4, Config.line5, Config.line8, decide_eq_true_eq]
    simp [numChannels, numAxes, clawAxis, chIndexWidth, Config.sampleMax, Config.rateMax, Config.bounds, and_assoc]
  · simp [Config.wf, Config.line6, hden]
  · simp [Machine.step, Machine.fetch, hs]

end Sys2Proof

namespace Sys2Proof.Machine

/-! ### A step on a decoded trace (10_state R21) -/

theorem fetch_of_decodeTrace {s : State} {is : List Instr} (hwf : s.cfg.wf = true)
    (h : decodeTrace s.cfg s.trace = .ok is) : fetch s = .ok is[s.idx]? := by
  rw [fetch, if_pos hwf, h]

/-- Settles O8: the event fetched is run, and no operation writes the index that then moves. -/
theorem stepRunsTheEventAtTheIndex : Obligations.StepRunsTheEventAtTheIndex := by
  intro s is i hwf hdec hget
  refine ⟨wf_of_mem_decodeTrace hdec (List.mem_of_getElem? hget), ?_⟩
  rw [step, fetch_of_decodeTrace hwf hdec, hget]
  cases h : exec i s with
  | next t =>
    obtain ⟨-, -, hidx⟩ := exec_sameSetting h
    simp only [State.advance, h, hidx]
  | fault f => simp only [h]
  | refused r => simp only [h]

/-- Settles O9: no event stands at an index past the last one. -/
theorem stepAtTheEndOfTheTraceIsIdle : Obligations.StepAtTheEndOfTheTraceIsIdle := by
  intro s is hwf hdec hlen
  rw [step, fetch_of_decodeTrace hwf hdec, List.getElem?_eq_none hlen]

/-- Settles O12: the registers are computed from REF. -/
theorem referenceResetState : Obligations.ReferenceResetState := by
  refine ⟨rfl, rfl, ?_, ?_, ?_, ?_, rfl, rfl, rfl, rfl, rfl, rfl, rfl, rfl⟩ <;> decide

/-! ### The widths of the registers (41 R111, 00_scope R10) -/

/-- Settles O52: a value below `2^width` is read back whole, and INTEGRATE, reset and the latch write no other. -/
theorem registerWidthsSuffice : Obligations.RegisterWidthsSuffice := by
  refine ⟨fun c => ⟨lt_two_pow_leastWidth _, fun _ => leastWidth_le, lt_two_pow_leastWidth _, fun _ => leastWidth_le⟩,
    by decide, by decide, fun s => ⟨forall_channel.2 ⟨s.pos0.isLt, s.pos1.isLt⟩, s.sc.isLt⟩, fun s i p n => ?_,
    fun c => powerOn_pos, fun s => ⟨?_, ?_⟩⟩
  · rw [State.pos_setPos, if_pos rfl, Nat.mod_eq_of_lt (integrateQ_lt _ _ _)]
  · rw [State.setSc_settleCount, Nat.mod_eq_of_lt (Config.settleMs_lt _)]
  · rw [State.setSc_settleCount, Nat.mod_eq_of_lt ((Nat.sub_le s.settleCount 1).trans_lt s.sc.isLt)]

/-! ### The text of a trace (30_encoding R73) -/

/-- The words of an event's line. -/
def eventWords : Instr → List (List Char)
  | .nop => [kwNop]
  | .start => [kwStart]
  | .convDone n => [kwConv, Nat.toDigits 10 n]
  | .pwmOvf => [kwOvf]
  | .poll b => [kwPoll, Nat.toDigits 10 (if b then 1 else 0)]
  | .msTick => [kwMs]
  | .reset => [kwReset]

/-- A word the tokens keep whole: not empty, of letters and digits. -/
def IsWord (w : List Char) : Prop := w ≠ [] ∧ w.all Char.isAlphanum = true

theorem isWord_toDigits (n : Nat) : IsWord (Nat.toDigits 10 n) :=
  ⟨Nat.toDigits_ne_nil, List.all_eq_true.2 fun ch hch => by
    simp [Char.isAlphanum, Nat.isDigit_of_mem_toDigits (by decide) (by decide) hch]⟩

/-- A letter or digit ends no word and starts no comment. -/
theorem tokens_alphanum_cons {ch : Char} (hch : ch.isAlphanum = true) (cur rest : List Char) :
    tokens false cur (ch :: rest) = tokens false (ch :: cur) rest := by
  have hne {sep : Char} (hsep : sep.isAlphanum = false) : ch ≠ sep := by
    rintro rfl
    simp [hsep] at hch
  rw [tokens, if_neg (hne (by decide)), if_neg Bool.false_ne_true, if_neg (hne (by decide)), if_neg, if_neg (hne (by decide)),
    if_neg (hne (by decide))]
  simp [hne (sep := ' ') (by decide), hne (sep := '\t') (by decide), hne (sep := '\r') (by decide)]

theorem tokens_word_append {w : List Char} (hw : w.all Char.isAlphanum = true) (cur rest : List Char) :
    tokens false cur (w ++ rest) = tokens false (w.reverse ++ cur) rest := by
  induction w generalizing cur with
  | nil => rfl
  | cons ch w ih =>
    obtain ⟨hch, hw⟩ := Bool.and_eq_true_iff.1 hw
    rw [List.cons_append, tokens_alphanum_cons hch, ih hw, List.reverse_cons, List.append_assoc, List.singleton_append]

theorem endWord_reverse {w : List Char} (hw : IsWord w) : endWord w.reverse = [.word w] := by
  rw [endWord, if_neg (List.reverse_ne_nil_iff.2 hw.1), List.reverse_reverse]

theorem tokens_word_blank {w : List Char} (hw : IsWord w) (rest : List Char) :
    tokens false [] (w ++ ' ' :: rest) = .word w :: tokens false [] rest := by
  rw [tokens_word_append hw.2, List.append_nil, tokens, endWord_reverse hw]
  rfl

theorem tokens_word_newline {w : List Char} (hw : IsWord w) (rest : List Char) :
    tokens false [] (w ++ '\n' :: rest) = .word w :: .newline :: tokens false [] rest := by
  rw [tokens_word_append hw.2, List.append_nil, tokens, if_pos rfl, endWord_reverse hw]
  rfl

theorem tokens_printEvent (i : Instr) (rest : List Char) :
    tokens false [] (printEvent i ++ '\n' :: rest) = (eventWords i).map .word ++ .newline :: tokens false [] rest := by
  have hoperand {w : List Char} (hw : IsWord w) (n : Nat) :
      tokens false [] ((w ++ ' ' :: Nat.toDigits 10 n) ++ '\n' :: rest) =
        .word w :: .word (Nat.toDigits 10 n) :: .newline :: tokens false [] rest := by
    rw [List.append_assoc, List.cons_append, tokens_word_blank hw, tokens_word_newline (isWord_toDigits n)]
  cases i with
  | convDone n => exact hoperand ⟨by decide, by rfl⟩ n
  | poll b => exact hoperand ⟨by decide, by rfl⟩ _
  | nop | start | pwmOvf | msTick | reset => exact tokens_word_newline ⟨by decide, by rfl⟩ rest

/-! ### Parsing the tokens -/

theorem digitValue_of_isDigit {ch : Char} (h : ch.isDigit = true) : digitValue ch = some (ch.toNat - '0'.toNat) := by
  rw [digitValue, if_pos]
  simpa [Char.isDigit_iff_toNat] using h

theorem decimalFrom_of_isDigit {cs : List Char} (h : ∀ ch ∈ cs, ch.isDigit = true) (n : Nat) :
    decimalFrom n cs = some (Nat.ofDigitChars 10 cs n) := by
  induction cs generalizing n with
  | nil => rfl
  | cons ch cs ih =>
    obtain ⟨hch, hcs⟩ := List.forall_mem_cons.1 h
    rw [decimalFrom, digitValue_of_isDigit hch, Nat.ofDigitChars_cons]
    exact ih hcs _

theorem decimal_toDigits (n : Nat) : decimal (Nat.toDigits 10 n) = some n := by
  rw [decimal, if_neg Nat.toDigits_ne_nil,
    decimalFrom_of_isDigit fun _ => Nat.isDigit_of_mem_toDigits (by decide) (by decide), Nat.ofDigitChars_ten_toDigits]

theorem parseLine_operand {c : Config} {w : List Char} {n : Nat} {p : Pseudo} (h : operandLine c w n = some p) :
    parseLine c [w, Nat.toDigits 10 n] = .ok p.expand := by
  rw [parseLine, decimal_toDigits, Option.bind_some, h]

theorem parseLine_eventWords {c : Config} {i : Instr} (hi : i.wf c = true) : parseLine c (eventWords i) = .ok [i] := by
  cases i with
  | convDone n => exact parseLine_operand (w := kwConv) (if_pos (of_decide_eq_true hi))
  | poll b =>
    have hline : operandLine c kwPoll (if b then 1 else 0) = some (.event (.poll b)) := by cases b <;> rfl
    exact parseLine_operand hline
  | nop | start | pwmOvf | msTick | reset => rfl

theorem parseTokens_words (c : Config) (stack : List (Nat × List Instr)) (acc : List Instr) (ws line : List (List Char))
    (rest : List Token) :
    parseTokens c stack acc line (ws.map .word ++ rest) = parseTokens c stack acc (ws.reverse ++ line) rest := by
  induction ws generalizing line with
  | nil => rfl
  | cons w ws ih =>
    rw [List.map_cons, List.cons_append, parseTokens, ih, List.reverse_cons, List.append_assoc, List.singleton_append]

theorem parseTokens_printTrace {c : Config} {is : List Instr} (his : ∀ i ∈ is, i.wf c = true) (acc : List Instr) :
    parseTokens c [] acc [] (tokens false [] (printTrace is)) = .ok (acc ++ is) := by
  induction is generalizing acc with
  | nil => rfl
  | cons i is ih =>
    obtain ⟨hi, his⟩ := List.forall_mem_cons.1 his
    rw [printTrace, tokens_printEvent, parseTokens_words, parseTokens, List.append_nil, List.reverse_reverse,
      parseLine_eventWords hi]
    exact (ih his _).trans (by rw [List.append_assoc, List.singleton_append])

/-- Settles O7: each printed line is read as the words of its event, and these parse to the event. -/
theorem traceTextRoundTrip : Obligations.TraceTextRoundTrip := fun _ _ _ his => parseTokens_printTrace his []

end Sys2Proof.Machine
